-- ==== Sys2Proof/Word.lean ====
section
/-! DEFINITION. The words of the core (00_scope.md R15): bytes, TFIFO entries, event vectors. -/

namespace Sys2Proof

/-- A byte (R15). -/
abbrev Byte := BitVec 8

/-- One TFIFO entry, `TF_WIDTH = 10` bits (R35, R86): data in [7:0], `last` in [8], `first` in [9]. -/
abbrev Entry := BitVec 10

/-- The value of an event vector (R80). Every vector of the core has at most 8 bits, bit 0 least significant. -/
abbrev EvWord := BitVec 8

end Sys2Proof
end

