-- ==== Sys2Proof/Config.lean ====
section
/-! DEFINITION. What is fixed at construction (00_scope.md R12, R13) and the values the spec leaves free
(93_implementation_defined.md U1, U3, U6, U7, U8, U10). -/

namespace Sys2Proof

/-- Endpoint direction, `DIR` (R12, R48). -/
inductive Dir where
  | dirOut
  | dirIn
  deriving DecidableEq, Repr

/-- What stands on the OUT side of the machine: an OUTEP with its BD and TFIFO (R160), or the TFIFO standalone on
its own ports (R84, 95_test_vectors.md 2.1). DESIGN CHOICE (log 2). -/
inductive OutSide where
  | outep
  | tfifoAlone
  deriving DecidableEq, Repr

/-- What stands on the IN side: an INEP fed by a byte producer (R82), or an MBIN with its inner INEP (R83, R240).
DESIGN CHOICE (log 2). -/
inductive InSide where
  | inep
  | mbin
  deriving DecidableEq, Repr

/-- The configuration of one machine (R12): which instances the integrator asks for (R278; log 2) and the parameters of
each. Its values are "fixed at construction, not runtime-mutable"; they ride in the state because the step takes nothing
else, and no step writes them (log 1). There are no upper bounds (R13). -/
structure Cfg where
  /-- Whether an OUT instance is asked for. -/
  hasOut    : Bool := true
  /-- Whether an IN instance is asked for. -/
  hasIn     : Bool := true
  outSide   : OutSide
  inSide    : InSide
  /-- `EP_NUM` of the OUT endpoint. -/
  outEp     : Nat
  outDir    : Dir := .dirOut
  /-- `MPS` of the OUT endpoint. -/
  outMps    : Nat
  /-- `BUF_DEPTH`, which is `TF_DEPTH` of the TFIFO; "buffer depth (bytes, default 2×max)". -/
  bufDepth  : Nat := 2 * outMps
  /-- `EP_NUM` of the IN endpoint. -/
  inEp      : Nat
  inDir     : Dir := .dirIn
  /-- `MPS` of the IN endpoint. -/
  inMps     : Nat
  /-- `W`, the MBIN word width in bytes. -/
  wordBytes : Nat
  deriving DecidableEq, Repr

/-- The configuration of the document's §8 scenario, program P1 (R14, 95_test_vectors.md section 3):
`EP_NUM=1, MPS=8, BUF_DEPTH=16, W=1`. DESIGN CHOICE (log 1): the machine of `State.reset`. -/
def Cfg.scenario : Cfg where
  outSide := .outep
  inSide := .mbin
  outEp := 1
  outMps := 8
  bufDepth := 16
  inEp := 1
  inMps := 8
  wordBytes := 1

/-- `GENERATE_ZLPS`, fixed `true` (R12, R200). -/
def Config.generateZlps : Bool := true

/-- What TFIFO entry `a` holds before anything is written to it: unspecified (R35, U1). Free value (log 5). -/
opaque Config.memInit : Nat → Entry

/-- What `pbuf[a]` holds before anything is written to it: unspecified (R41, U3). Free value (log 5). -/
opaque Config.pbufInit : Nat → Byte

/-- `read_data` in a tick with `empty = 1` (R115, U6), by tick. Free value (log 7). -/
opaque Config.freeReadData : Nat → Entry

/-- `bd_data` in a tick with `bd_next = 0` (R141, U7), by tick. Free value (log 7). -/
opaque Config.freeBdData : Nat → Byte

/-- `tx_data` in a tick with `tx_valid = 0` (R212, U8), by tick. Free value (log 7). -/
opaque Config.freeTxData : Nat → Byte

/-- `i_data` in a tick with MBIN in `IDLE` (R241, U10), by tick. Free value (log 7). -/
opaque Config.freeIData : Nat → Byte

/-- `i_first` in a tick with MBIN in `IDLE` (R241, U10), by tick. Free value (log 7). -/
opaque Config.freeIFirst : Nat → Bool

/-- `i_last` in a tick with MBIN in `IDLE` (R241, U10), by tick. Free value (log 7). -/
opaque Config.freeILast : Nat → Bool

end Sys2Proof
end

