-- ==== Sys2Proof/Syntax.lean ====
section
/-! DEFINITION. The operations of the core as syntax: one constructor per row of spec/opcode_table.json, the event
vectors they are rows of (30_encoding.md R80, R92-R102), and an event: one vector with a value. -/

namespace Sys2Proof

/-- The event vectors (30_encoding.md section 4). -/
inductive Vec where
  /-- `EV_TF`, R92. -/
  | tf
  /-- `EV_BD`, R93. -/
  | bd
  /-- `EV_OUTRESP`, R94. -/
  | outResp
  /-- `EV_OUTRX`, R95. -/
  | outRx
  /-- `EV_OUTSTR`, R96. -/
  | outStr
  /-- `EV_INFILL`, R97. -/
  | inFill
  /-- `EV_INTOK`, R98. -/
  | inTok
  /-- `EV_INTX`, R99. -/
  | inTx
  /-- `EV_INACK`, R100. -/
  | inAck
  /-- `EV_MB`, R101. -/
  | mb
  /-- `EV_RST`, R102. -/
  | rst
  deriving DecidableEq, Repr

/-- How many bits each event vector has (R92-R102). -/
def Vec.width : Vec → Nat
  | .tf => 8
  | .bd => 4
  | .outResp => 5
  | .outRx => 4
  | .outStr => 2
  | .inFill => 3
  | .inTok => 5
  | .inTx => 3
  | .inAck => 3
  | .mb => 4
  | .rst => 1

/-- One event: a vector and its value in a tick (R80). -/
structure Event where
  vec   : Vec
  value : EvWord
  deriving DecidableEq, Repr

/-- The 63 rows of the opcode table. An operation has no operand and no immediate (R103): what it reads are the
ports and the pre-state. A constructor's name is its row's mnemonic; the docstring cites its rule. -/
inductive Instr where
  /-- TF_WRITE, R116. -/
  | tfWrite
  /-- TF_WRITE_FULL, R117. -/
  | tfWriteFull
  /-- TF_WRITE_COMMIT, R118. -/
  | tfWriteCommit
  /-- TF_WRITE_DISCARD, R119. -/
  | tfWriteDiscard
  /-- TF_READ, R120. -/
  | tfRead
  /-- TF_READ_EMPTY, R121. -/
  | tfReadEmpty
  /-- TF_READ_COMMIT, R122. -/
  | tfReadCommit
  /-- TF_READ_DISCARD, R123. -/
  | tfReadDiscard
  /-- TF_NOP, R124. -/
  | tfNop
  /-- ILLEGAL_TF_MF5, R270. -/
  | illegalTfMf5
  /-- ILLEGAL_TF_MF6, R270. -/
  | illegalTfMf6
  /-- BD_IDLE, R142. -/
  | bdIdle
  /-- BD_CAPTURE, R143. -/
  | bdCapture
  /-- BD_RELAY, R144. -/
  | bdRelay
  /-- BD_END_COMPLETE, R145. -/
  | bdEndComplete
  /-- BD_END_COMPLETE_EMPTY, R146. -/
  | bdEndCompleteEmpty
  /-- BD_END_INVALID, R147. -/
  | bdEndInvalid
  /-- BD_END_INVALID_EMPTY, R148. -/
  | bdEndInvalidEmpty
  /-- ILLEGAL_BD_MF1_COMPLETE_INVALID, R270. -/
  | illegalBdMf1CompleteInvalid
  /-- ILLEGAL_BD_MF2_NEXT_COMPLETE, R270. -/
  | illegalBdMf2NextComplete
  /-- ILLEGAL_BD_MF2_NEXT_INVALID, R270. -/
  | illegalBdMf2NextInvalid
  /-- OUT_DATA_ACCEPT, R170. -/
  | outDataAccept
  /-- OUT_DATA_SKIP, R171. -/
  | outDataSkip
  /-- OUT_DATA_NAK, R172. -/
  | outDataNak
  /-- OUT_PING_ACK, R173. -/
  | outPingAck
  /-- OUT_PING_NAK_NOSPACE, R174. -/
  | outPingNakNospace
  /-- OUT_PING_NAK_PIDMISMATCH, R175. -/
  | outPingNakPidmismatch
  /-- OUT_DATA_NOT_TARGETED, R176. -/
  | outDataNotTargeted
  /-- OUT_PING_NOT_TARGETED, R177. -/
  | outPingNotTargeted
  /-- OUT_RESP_IDLE, R178. -/
  | outRespIdle
  /-- ILLEGAL_OUTRESP_MF3, R270. -/
  | illegalOutrespMf3
  /-- OUT_RX_WRITE, R180. -/
  | outRxWrite
  /-- OUT_RX_DROP, R181. -/
  | outRxDrop
  /-- OUT_RX_COMMIT, R182. -/
  | outRxCommit
  /-- OUT_RX_DISCARD, R183. -/
  | outRxDiscard
  /-- OUT_STREAM_XFER, R185. -/
  | outStreamXfer
  /-- OUT_STREAM_WAIT, R186. -/
  | outStreamWait
  /-- OUT_STREAM_EMPTY, R187. -/
  | outStreamEmpty
  /-- IN_FILL_IDLE, R207. -/
  | inFillIdle
  /-- IN_FILL_BYTE, R203. -/
  | inFillByte
  /-- IN_CLOSE_SHORT, R204. -/
  | inCloseShort
  /-- IN_CLOSE_FULL, R205. -/
  | inCloseFull
  /-- IN_CLOSE_FULL_LAST, R206. -/
  | inCloseFullLast
  /-- IN_TOK_IDLE, R226. -/
  | inTokIdle
  /-- IN_REQ_NOT_TARGETED, R211. -/
  | inReqNotTargeted
  /-- IN_SEND_DATA, R208. -/
  | inSendData
  /-- IN_SEND_ZLP, R209. -/
  | inSendZlp
  /-- IN_NAK, R210. -/
  | inNak
  /-- ILLEGAL_INTOK_MF9, R270. -/
  | illegalIntokMf9
  /-- IN_TX_IDLE, R227. -/
  | inTxIdle
  /-- IN_TX_WAIT, R215. -/
  | inTxWait
  /-- IN_TX_BYTE, R213. -/
  | inTxByte
  /-- IN_TX_LAST, R214. -/
  | inTxLast
  /-- IN_ACK_DATA, R216. -/
  | inAckData
  /-- IN_ACK_ZLP, R217. -/
  | inAckZlp
  /-- IN_ACK_IGNORED, R218. -/
  | inAckIgnored
  /-- MB_IDLE_WAIT, R243. -/
  | mbIdleWait
  /-- MB_LOAD, R244. -/
  | mbLoad
  /-- MB_HOLD, R245. -/
  | mbHold
  /-- MB_SHIFT, R246. -/
  | mbShift
  /-- MB_RELOAD, R247. -/
  | mbReload
  /-- MB_FINISH, R248. -/
  | mbFinish
  /-- RESET, R291. -/
  | reset
  deriving DecidableEq, Repr

/-- The event vector an operation is a row of. -/
def Instr.vec : Instr → Vec
  | .tfWrite => .tf
  | .tfWriteFull => .tf
  | .tfWriteCommit => .tf
  | .tfWriteDiscard => .tf
  | .tfRead => .tf
  | .tfReadEmpty => .tf
  | .tfReadCommit => .tf
  | .tfReadDiscard => .tf
  | .tfNop => .tf
  | .illegalTfMf5 => .tf
  | .illegalTfMf6 => .tf
  | .bdIdle => .bd
  | .bdCapture => .bd
  | .bdRelay => .bd
  | .bdEndComplete => .bd
  | .bdEndCompleteEmpty => .bd
  | .bdEndInvalid => .bd
  | .bdEndInvalidEmpty => .bd
  | .illegalBdMf1CompleteInvalid => .bd
  | .illegalBdMf2NextComplete => .bd
  | .illegalBdMf2NextInvalid => .bd
  | .outDataAccept => .outResp
  | .outDataSkip => .outResp
  | .outDataNak => .outResp
  | .outPingAck => .outResp
  | .outPingNakNospace => .outResp
  | .outPingNakPidmismatch => .outResp
  | .outDataNotTargeted => .outResp
  | .outPingNotTargeted => .outResp
  | .outRespIdle => .outResp
  | .illegalOutrespMf3 => .outResp
  | .outRxWrite => .outRx
  | .outRxDrop => .outRx
  | .outRxCommit => .outRx
  | .outRxDiscard => .outRx
  | .outStreamXfer => .outStr
  | .outStreamWait => .outStr
  | .outStreamEmpty => .outStr
  | .inFillIdle => .inFill
  | .inFillByte => .inFill
  | .inCloseShort => .inFill
  | .inCloseFull => .inFill
  | .inCloseFullLast => .inFill
  | .inTokIdle => .inTok
  | .inReqNotTargeted => .inTok
  | .inSendData => .inTok
  | .inSendZlp => .inTok
  | .inNak => .inTok
  | .illegalIntokMf9 => .inTok
  | .inTxIdle => .inTx
  | .inTxWait => .inTx
  | .inTxByte => .inTx
  | .inTxLast => .inTx
  | .inAckData => .inAck
  | .inAckZlp => .inAck
  | .inAckIgnored => .inAck
  | .mbIdleWait => .mb
  | .mbLoad => .mb
  | .mbHold => .mb
  | .mbShift => .mb
  | .mbReload => .mb
  | .mbFinish => .mb
  | .reset => .rst

end Sys2Proof
end

