-- ==== Sys2Proof/WellFormed.lean ====
section
/-! DEFINITION. What is checked before anything runs: a configuration (70_reset_and_hazards.md R296), an event
(30_encoding.md R80) and an operation (R104: an illegal row is no operation of the hardware). -/

namespace Sys2Proof

/-- R296(1) to R296(4) for the OUT instance: `EP_NUM ∈ 0..15`, `DIR = OUT`, `MPS ≥ 1`, `BUF_DEPTH ≥ MPS`. A standalone
TFIFO is no endpoint: its depth alone is asked to be at least 1, so that `crp` has a value (R36; log 16). -/
def Cfg.outLegal (c : Cfg) : Bool :=
  match c.outSide with
  | .outep => c.outEp ≤ 15 && c.outDir == .dirOut && 1 ≤ c.outMps && c.outMps ≤ c.bufDepth
  | .tfifoAlone => 1 ≤ c.bufDepth

/-- R296(1), R296(2), R296(3) for the IN instance, and R296(5), `W ≥ 1`, where it is an MBIN. -/
def Cfg.inLegal (c : Cfg) : Bool :=
  c.inEp ≤ 15 && c.inDir == .dirIn && 1 ≤ c.inMps &&
    match c.inSide with
    | .inep => true
    | .mbin => 1 ≤ c.wordBytes

/-- "An instance is built only if all of these hold" (R296): the OUT instance. One that is refused has no machine (R266),
and nothing of the other's (R49). -/
def Cfg.outBuilt (c : Cfg) : Bool := c.hasOut && c.outLegal

/-- The IN instance is built (R296). -/
def Cfg.inBuilt (c : Cfg) : Bool := c.hasIn && c.inLegal

/-- Some instance is built: there is a machine to step (R266). -/
def Cfg.legal (c : Cfg) : Bool := c.outBuilt || c.inBuilt

/-- An event is well formed when its value has no bit above its vector's width. -/
def Event.wf (e : Event) : Bool := e.value.toNat < 2 ^ e.vec.width

/-- An operation is well formed when it is one of the hardware's: each illegal row is "a model fault", "no hardware
operation" (R104, opcode_table.json). -/
def Instr.wf : Instr → Bool
  | .tfWrite => true
  | .tfWriteFull => true
  | .tfWriteCommit => true
  | .tfWriteDiscard => true
  | .tfRead => true
  | .tfReadEmpty => true
  | .tfReadCommit => true
  | .tfReadDiscard => true
  | .tfNop => true
  | .illegalTfMf5 => false
  | .illegalTfMf6 => false
  | .bdIdle => true
  | .bdCapture => true
  | .bdRelay => true
  | .bdEndComplete => true
  | .bdEndCompleteEmpty => true
  | .bdEndInvalid => true
  | .bdEndInvalidEmpty => true
  | .illegalBdMf1CompleteInvalid => false
  | .illegalBdMf2NextComplete => false
  | .illegalBdMf2NextInvalid => false
  | .outDataAccept => true
  | .outDataSkip => true
  | .outDataNak => true
  | .outPingAck => true
  | .outPingNakNospace => true
  | .outPingNakPidmismatch => true
  | .outDataNotTargeted => true
  | .outPingNotTargeted => true
  | .outRespIdle => true
  | .illegalOutrespMf3 => false
  | .outRxWrite => true
  | .outRxDrop => true
  | .outRxCommit => true
  | .outRxDiscard => true
  | .outStreamXfer => true
  | .outStreamWait => true
  | .outStreamEmpty => true
  | .inFillIdle => true
  | .inFillByte => true
  | .inCloseShort => true
  | .inCloseFull => true
  | .inCloseFullLast => true
  | .inTokIdle => true
  | .inReqNotTargeted => true
  | .inSendData => true
  | .inSendZlp => true
  | .inNak => true
  | .illegalIntokMf9 => false
  | .inTxIdle => true
  | .inTxWait => true
  | .inTxByte => true
  | .inTxLast => true
  | .inAckData => true
  | .inAckZlp => true
  | .inAckIgnored => true
  | .mbIdleWait => true
  | .mbLoad => true
  | .mbHold => true
  | .mbShift => true
  | .mbReload => true
  | .mbFinish => true
  | .reset => true

end Sys2Proof
end

