-- ==== Sys2Proof/Decode.lean ====
section
/-! DEFINITION. Decoding an event vector to the rows that fire, and encoding a row (30_encoding.md R80, R92-R102,
opcode_table.json). -/

namespace Sys2Proof

/-- The bits b0, b1, ... b7 of an event-vector value: bit 0 is the least significant (R80, R92-R102). -/
def bits8 (w : EvWord) : List Bool :=
  [w.getLsbD 0, w.getLsbD 1, w.getLsbD 2, w.getLsbD 3, w.getLsbD 4, w.getLsbD 5, w.getLsbD 6, w.getLsbD 7]

/-- Bits agree with a pattern wherever a mask is 1: `(ev & mask) == match`, bit by bit, so that a bit outside the mask
is not looked at. -/
def agreesWhere : List Bool → List Bool → List Bool → Bool
  | m :: ms, t :: ts, e :: es => (!m || e == t) && agreesWhere ms ts es
  | _, _, _ => true

/-- `match` of each row (R92-R102). -/
def Instr.matchWord : Instr → EvWord
  | .tfWrite => 0x01#8
  | .tfWriteFull => 0x03#8
  | .tfWriteCommit => 0x04#8
  | .tfWriteDiscard => 0x08#8
  | .tfRead => 0x10#8
  | .tfReadEmpty => 0x30#8
  | .tfReadCommit => 0x40#8
  | .tfReadDiscard => 0x80#8
  | .tfNop => 0x00#8
  | .illegalTfMf5 => 0x0C#8
  | .illegalTfMf6 => 0xC0#8
  | .bdIdle => 0x00#8
  | .bdCapture => 0x01#8
  | .bdRelay => 0x09#8
  | .bdEndComplete => 0x0A#8
  | .bdEndCompleteEmpty => 0x02#8
  | .bdEndInvalid => 0x0C#8
  | .bdEndInvalidEmpty => 0x04#8
  | .illegalBdMf1CompleteInvalid => 0x06#8
  | .illegalBdMf2NextComplete => 0x03#8
  | .illegalBdMf2NextInvalid => 0x05#8
  | .outDataAccept => 0x1D#8
  | .outDataSkip => 0x05#8
  | .outDataNak => 0x15#8
  | .outPingAck => 0x1E#8
  | .outPingNakNospace => 0x06#8
  | .outPingNakPidmismatch => 0x0E#8
  | .outDataNotTargeted => 0x01#8
  | .outPingNotTargeted => 0x02#8
  | .outRespIdle => 0x00#8
  | .illegalOutrespMf3 => 0x03#8
  | .outRxWrite => 0x03#8
  | .outRxDrop => 0x01#8
  | .outRxCommit => 0x04#8
  | .outRxDiscard => 0x08#8
  | .outStreamXfer => 0x03#8
  | .outStreamWait => 0x01#8
  | .outStreamEmpty => 0x00#8
  | .inFillIdle => 0x00#8
  | .inFillByte => 0x01#8
  | .inCloseShort => 0x03#8
  | .inCloseFull => 0x05#8
  | .inCloseFullLast => 0x07#8
  | .inTokIdle => 0x00#8
  | .inReqNotTargeted => 0x01#8
  | .inSendData => 0x07#8
  | .inSendZlp => 0x0B#8
  | .inNak => 0x03#8
  | .illegalIntokMf9 => 0x13#8
  | .inTxIdle => 0x00#8
  | .inTxWait => 0x01#8
  | .inTxByte => 0x03#8
  | .inTxLast => 0x07#8
  | .inAckData => 0x07#8
  | .inAckZlp => 0x03#8
  | .inAckIgnored => 0x01#8
  | .mbIdleWait => 0x00#8
  | .mbLoad => 0x02#8
  | .mbHold => 0x01#8
  | .mbShift => 0x05#8
  | .mbReload => 0x0F#8
  | .mbFinish => 0x0D#8
  | .reset => 0x01#8

/-- `mask` of each row (R92-R102). -/
def Instr.maskWord : Instr → EvWord
  | .tfWrite => 0x03#8
  | .tfWriteFull => 0x03#8
  | .tfWriteCommit => 0x0C#8
  | .tfWriteDiscard => 0x0C#8
  | .tfRead => 0x30#8
  | .tfReadEmpty => 0x30#8
  | .tfReadCommit => 0xC0#8
  | .tfReadDiscard => 0xC0#8
  | .tfNop => 0xDD#8
  | .illegalTfMf5 => 0x0C#8
  | .illegalTfMf6 => 0xC0#8
  | .bdIdle => 0x07#8
  | .bdCapture => 0x0F#8
  | .bdRelay => 0x0F#8
  | .bdEndComplete => 0x0F#8
  | .bdEndCompleteEmpty => 0x0F#8
  | .bdEndInvalid => 0x0F#8
  | .bdEndInvalidEmpty => 0x0F#8
  | .illegalBdMf1CompleteInvalid => 0x06#8
  | .illegalBdMf2NextComplete => 0x03#8
  | .illegalBdMf2NextInvalid => 0x05#8
  | .outDataAccept => 0x1F#8
  | .outDataSkip => 0x17#8
  | .outDataNak => 0x1F#8
  | .outPingAck => 0x1F#8
  | .outPingNakNospace => 0x0F#8
  | .outPingNakPidmismatch => 0x1F#8
  | .outDataNotTargeted => 0x07#8
  | .outPingNotTargeted => 0x07#8
  | .outRespIdle => 0x03#8
  | .illegalOutrespMf3 => 0x03#8
  | .outRxWrite => 0x03#8
  | .outRxDrop => 0x03#8
  | .outRxCommit => 0x0C#8
  | .outRxDiscard => 0x0C#8
  | .outStreamXfer => 0x03#8
  | .outStreamWait => 0x03#8
  | .outStreamEmpty => 0x01#8
  | .inFillIdle => 0x01#8
  | .inFillByte => 0x07#8
  | .inCloseShort => 0x07#8
  | .inCloseFull => 0x07#8
  | .inCloseFullLast => 0x07#8
  | .inTokIdle => 0x01#8
  | .inReqNotTargeted => 0x03#8
  | .inSendData => 0x17#8
  | .inSendZlp => 0x1F#8
  | .inNak => 0x1F#8
  | .illegalIntokMf9 => 0x13#8
  | .inTxIdle => 0x01#8
  | .inTxWait => 0x03#8
  | .inTxByte => 0x07#8
  | .inTxLast => 0x07#8
  | .inAckData => 0x07#8
  | .inAckZlp => 0x07#8
  | .inAckIgnored => 0x03#8
  | .mbIdleWait => 0x03#8
  | .mbLoad => 0x03#8
  | .mbHold => 0x05#8
  | .mbShift => 0x0D#8
  | .mbReload => 0x0F#8
  | .mbFinish => 0x0F#8
  | .reset => 0x01#8

/-- "The operation fires in a tick when `(EV & mask) == match`" (R80), on the bits of the vector. -/
def Instr.firesOn (i : Instr) (ev : List Bool) : Bool := agreesWhere (bits8 i.maskWord) (bits8 i.matchWord) ev

/-- The rows of each event vector, in the table's order. -/
def Vec.rows : Vec → List Instr
  | .tf =>
    [.tfWrite, .tfWriteFull, .tfWriteCommit, .tfWriteDiscard, .tfRead, .tfReadEmpty, .tfReadCommit,
     .tfReadDiscard, .tfNop, .illegalTfMf5, .illegalTfMf6]
  | .bd =>
    [.bdIdle, .bdCapture, .bdRelay, .bdEndComplete, .bdEndCompleteEmpty, .bdEndInvalid,
     .bdEndInvalidEmpty, .illegalBdMf1CompleteInvalid, .illegalBdMf2NextComplete,
     .illegalBdMf2NextInvalid]
  | .outResp =>
    [.outDataAccept, .outDataSkip, .outDataNak, .outPingAck, .outPingNakNospace, .outPingNakPidmismatch,
     .outDataNotTargeted, .outPingNotTargeted, .outRespIdle, .illegalOutrespMf3]
  | .outRx =>
    [.outRxWrite, .outRxDrop, .outRxCommit, .outRxDiscard]
  | .outStr =>
    [.outStreamXfer, .outStreamWait, .outStreamEmpty]
  | .inFill =>
    [.inFillIdle, .inFillByte, .inCloseShort, .inCloseFull, .inCloseFullLast]
  | .inTok =>
    [.inTokIdle, .inReqNotTargeted, .inSendData, .inSendZlp, .inNak, .illegalIntokMf9]
  | .inTx =>
    [.inTxIdle, .inTxWait, .inTxByte, .inTxLast]
  | .inAck =>
    [.inAckData, .inAckZlp, .inAckIgnored]
  | .mb =>
    [.mbIdleWait, .mbLoad, .mbHold, .mbShift, .mbReload, .mbFinish]
  | .rst =>
    [.reset]

/-- The rows that fire for the bits of a vector, in the table's order: at most one where the rows are exclusive, one of
each group where they are concurrent (R80, R92-R102). -/
def firing (v : Vec) (ev : List Bool) : List Instr := v.rows.filter (·.firesOn ev)

/-- Why a value decodes to no row. -/
inductive DecodeError where
  /-- The value has a bit above the vector's width (R92-R102): no tick assembles it. -/
  | bitsAboveVector
  /-- No row matches: the vector "matches no row and does nothing" (R100 for `EV_INACK`, R95 for `EV_OUTRX`). -/
  | noRow
  deriving DecidableEq, Repr

/-- The decoder: total on every value of every vector, rejecting by name. -/
def decode (e : Event) : Except DecodeError (List Instr) :=
  if e.wf then
    match firing e.vec (bits8 e.value) with
    | [] => .error .noRow
    | i :: is => .ok (i :: is)
  else .error .bitsAboveVector

/-- The encoder: a row's vector with its `match` value, every bit outside its mask 0. -/
def encode (i : Instr) : Event := ⟨i.vec, i.matchWord⟩

/-- The vectors in the table's order. -/
def Vec.all : List Vec := [.tf, .bd, .outResp, .outRx, .outStr, .inFill, .inTok, .inTx, .inAck, .mb, .rst]

/-- The first row of a list that has the value as its `match` word. -/
def firstExact (ev : EvWord) : List Instr → Option Instr
  | [] => none
  | i :: is => if i.matchWord == ev then some i else firstExact ev is

/-- The first row that the decoder gives for the value in some vector of the list. -/
def firstDecoded (ev : EvWord) : List Vec → Option Instr
  | [] => none
  | v :: vs =>
    match decode ⟨v, ev⟩ with
    | .ok (i :: _) => some i
    | _ => firstDecoded ev vs

/-- The row read from a word of the opcode table. The table's words do not name their event vector (several rows have
the same word), so a word is given to the vectors in the table's order: the first row of the table whose `match` it
is; where it is no row's `match`, the first row the decoder gives. DESIGN CHOICE (log 10). -/
def decodeTableWord (nbits w : Nat) : Option Instr :=
  if w < 2 ^ nbits && w < 256 then
    match firstExact (BitVec.ofNat 8 w) (Vec.all.flatMap Vec.rows) with
    | some i => some i
    | none => firstDecoded (BitVec.ofNat 8 w) Vec.all
  else none

end Sys2Proof
end

