-- ==== Sys2Proof/Machine/State.lean ====
section
/-! DEFINITION. The state of the machine as plain data (10_state.md R30-R50), its input and output ports
(30_encoding.md R81-R85), the model faults (60_exceptions.md R270), the refusals, and the state after reset (R46). -/

namespace Sys2Proof.Machine

/-- The model faults MF1-MF11 (R270): "an input, or an input together with pre-state, for which the document gives no
meaning, or for which the hardware behaves in a way the document says must not happen". The step raises them in the
order of R272 (`State.outTickFault`, `State.inTickFault`); a row raises the ones its own rule lists under Exceptions. All are SAFE: the model
stops where the chip would go on. -/
inductive Fault where
  /-- MF1 BOTH_VERDICTS: `rx_complete ∧ rx_invalid` (R151). Raised by the step and by the illegal row of `EV_BD`. Safe. -/
  | bothVerdicts
  /-- MF2 BYTE_WITH_VERDICT: `rx_next ∧ (rx_complete ∨ rx_invalid)` (R151). Raised by the step and by two illegal rows of
  `EV_BD`. Safe. -/
  | byteWithVerdict
  /-- MF3 BOTH_REQUESTS: `data_req ∧ ping_req` (R297). Raised by the step and by the illegal row of `EV_OUTRESP`. Safe. -/
  | bothRequests
  /-- MF4 RESPONSE_TIMING: `data_req ∧ targeting_endpoint ∧ ¬rx_complete` (R298). Raised by the step and by
  OUT_DATA_ACCEPT, OUT_DATA_SKIP, OUT_DATA_NAK. Safe. -/
  | responseTiming
  /-- MF5 COMMIT_AND_DISCARD: `wc ∧ wdis` (R118, R119). Raised by the step and by an illegal row of `EV_TF`. Safe. -/
  | commitAndDiscard
  /-- MF6 COMMIT_AND_UNREAD: `rc ∧ rdis` (R122, R123). Raised by the step and by an illegal row of `EV_TF`. Safe. -/
  | commitAndUnread
  /-- MF7 OVERRUN: `we ∧ full` (R117, R300). Raised by the step, by TF_WRITE_FULL and by OUT_RX_WRITE. Safe. -/
  | overrun
  /-- MF8 OFFER_RETRACTED: a pending offer was retracted or changed (R21, R304). Raised by the step, by the rows of
  `EV_INFILL`, by MB_IDLE_WAIT and by MB_HOLD. Safe. -/
  | offerRetracted
  /-- MF9 IN_REQ_DURING_TX: `in_req ∧ targeting_in ∧ tx_active` (R228). Raised by the step and by the illegal row of
  `EV_INTOK`. Safe. -/
  | inReqDuringTx
  /-- MF10 TOKEN_BOTH_DIRECTIONS: `tok_out ∧ tok_in` (R87). Raised by the step. Safe. -/
  | tokenBothDirections
  /-- MF11 IN_REQ_WITH_ACK: `in_req ∧ hs_in_ack` (R228). Raised by the step and by the rows of `EV_INTOK` and `EV_INACK`
  whose rules list it. Safe. -/
  | inReqWithAck
  deriving DecidableEq, Repr

/-- The number n of MFn (R270). -/
def Fault.code : Fault → Nat
  | .bothVerdicts => 1
  | .byteWithVerdict => 2
  | .bothRequests => 3
  | .responseTiming => 4
  | .commitAndDiscard => 5
  | .commitAndUnread => 6
  | .overrun => 7
  | .offerRetracted => 8
  | .inReqDuringTx => 9
  | .tokenBothDirections => 10
  | .inReqWithAck => 11

/-- Why the machine gives no meaning. -/
inductive Refusal where
  /-- An operation that has no meaning in this model: raised by `exec`'s arm alone. No arm raises it today. Safe. -/
  | notModelled (mnemonic : String)
  /-- Condition E4 MISCONFIG (R266, R296): the configuration is refused, "no machine is built, and no claim is made of
  it". Raised by the step where no instance is built. Safe. -/
  | misconfigured
  deriving DecidableEq, Repr

/-! ## Registers -/

/-- A stored array in one canonical form: pairs of index and value, indices strictly rising. An index that is not
listed holds no value yet (R35, R41). -/
abbrev Cells (α : Type) := List (Nat × α)

/-- The TFIFO (R35, R36). -/
structure Tfifo where
  /-- `mem[0 .. TF_DEPTH−1]`. -/
  mem : Cells Entry
  /-- `crp`: committed read index. -/
  crp : Nat
  /-- `n_rc`: entries read, not yet read-committed. -/
  nRc : Nat
  /-- `n_c`: committed entries from `crp` on. -/
  nC  : Nat
  /-- `n_s`: entries of the current speculative run. -/
  nS  : Nat
  deriving DecidableEq, Repr

/-- The BD (R39). -/
structure Bd where
  /-- `hold_valid`. -/
  holdValid   : Bool
  /-- `hold_data`. -/
  holdData    : Byte
  /-- `is_first_byte`. -/
  isFirstByte : Bool
  deriving DecidableEq, Repr

/-- A pending offer, as `prev_offer` records it (R44): the payload, `first` and `last` offered. -/
structure Offer where
  data  : Nat
  first : Bool
  last  : Bool
  deriving DecidableEq, Repr

/-- The INEP (R41). -/
structure Inep where
  /-- `in_toggle`: false for DATA0, true for DATA1 (R88). -/
  inToggle    : Bool
  /-- `pbuf[0 .. MPS−1]`. -/
  pbuf        : List Host.Cell
  /-- `fill_len`. -/
  fillLen     : Nat
  /-- `staged`. -/
  staged      : Bool
  /-- `zlp_pending`. -/
  zlpPending  : Bool
  /-- `tx_active`. -/
  txActive    : Bool
  /-- `tx_idx`. -/
  txIdx       : Nat
  /-- `awaiting_ack`. -/
  awaitingAck : Bool
  /-- model-only `prev_offer` of the INEP `p_*` stream (R44). -/
  prevOffer   : Option Offer
  deriving DecidableEq, Repr

/-- `mb_state` (R43). -/
inductive MbState where
  | idle
  | transmit
  deriving DecidableEq, Repr

/-- The MBIN (R43). -/
structure Mbin where
  /-- `mb_state`. -/
  mbState   : MbState
  /-- `shreg`: `8·W` bits, held as the natural number they write (log 15). -/
  shreg     : Nat
  /-- `cnt`. -/
  cnt       : Nat
  /-- `lat_first`. -/
  latFirst  : Bool
  /-- `lat_last`. -/
  latLast   : Bool
  /-- model-only `prev_offer` of the MBIN `p_*` stream (R44). -/
  prevOffer : Option Offer
  deriving DecidableEq, Repr

/-- Every register and array of the machine. -/
structure Regs where
  tf   : Tfifo
  bd   : Bd
  /-- `expected_data_toggle` of OUTEP (R40): false for DATA0, true for DATA1. -/
  expectedDataToggle : Bool
  inep : Inep
  mb   : Mbin
  deriving DecidableEq, Repr

/-! ## Ports -/

/-- The input ports of one tick (R81-R84). A one-bit port is a Bool, 1 being true (R15). -/
structure Inputs where
  /-- `rst` of the OUT instance (R81). In the IN instance's own part of the tick (`State.forIn`) it is that instance's
  `rst` (R82): the integrator asserts it "for the affected instances" (R293). -/
  rst         : Bool
  /-- `rst` of the IN instance (R82, R83), as the reset source drives it. -/
  inRst       : Bool
  /-- `tok_ep`, 4 bits. -/
  tokEp       : BitVec 4
  tokOut      : Bool
  tokIn       : Bool
  dataReq     : Bool
  pingReq     : Bool
  /-- `rx_pid_toggle`: false for DATA0, true for DATA1 (R88). -/
  rxPidToggle : Bool
  rxNext      : Bool
  rxData      : Byte
  rxComplete  : Bool
  rxInvalid   : Bool
  sReady      : Bool
  inReq       : Bool
  hsInAck     : Bool
  txReady     : Bool
  pValid      : Bool
  /-- `p_data`: 8 bits at an INEP (R82), `8·W` bits at an MBIN (R83); the port takes the low bits (log 15). -/
  pData       : Nat
  pFirst      : Bool
  pLast       : Bool
  /-- The ports of a standalone TFIFO (R84). -/
  we          : Bool
  wd          : Entry
  wc          : Bool
  wdis        : Bool
  re          : Bool
  rc          : Bool
  rdis        : Bool
  deriving DecidableEq, Repr

/-- One line of an event script (R107): strobes are 0 unless written, levels keep the last value written. `rx=0xHH` is
`rxNext` with `rxData`; R107 lists `rx_data` neither as strobe nor as level, and a line that does not write it puts 0
there, DESIGN CHOICE (log 23). The standalone TFIFO's ports are strobes here (log 16). `rst` is the OUT instance's,
`inRst` the IN instance's (R293; log 2). -/
structure Line where
  rst         : Bool := false
  inRst       : Bool := false
  dataReq     : Bool := false
  pingReq     : Bool := false
  rxNext      : Bool := false
  rxData      : Byte := 0#8
  rxComplete  : Bool := false
  rxInvalid   : Bool := false
  inReq       : Bool := false
  hsInAck     : Bool := false
  tokEp       : Option (BitVec 4) := none
  tokOut      : Option Bool := none
  tokIn       : Option Bool := none
  rxPidToggle : Option Bool := none
  sReady      : Option Bool := none
  txReady     : Option Bool := none
  pValid      : Option Bool := none
  pData       : Option Nat := none
  pFirst      : Option Bool := none
  pLast       : Option Bool := none
  we          : Bool := false
  wd          : Entry := 0#10
  wc          : Bool := false
  wdis        : Bool := false
  re          : Bool := false
  rc          : Bool := false
  rdis        : Bool := false
  deriving DecidableEq, Repr

/-- The TFIFO's ports in a tick (R84): its inputs as driven, its outputs. -/
structure TfPorts where
  we             : Bool
  wd             : Entry
  wc             : Bool
  wdis           : Bool
  re             : Bool
  rc             : Bool
  rdis           : Bool
  readData       : Entry
  empty          : Bool
  full           : Bool
  spaceAvailable : Nat
  runSpace       : Nat
  deriving DecidableEq, Repr

/-- The BD's outputs in a tick (R85). -/
structure BdPorts where
  bdNext     : Bool
  bdData     : Byte
  bdFirst    : Bool
  bdLast     : Bool
  bdComplete : Bool
  bdInvalid  : Bool
  deriving DecidableEq, Repr

/-- OUTEP's outputs in a tick (R81). -/
structure OutPorts where
  hsAck  : Bool
  hsNak  : Bool
  sValid : Bool
  sData  : Byte
  sFirst : Bool
  sLast  : Bool
  deriving DecidableEq, Repr

/-- INEP's outputs in a tick (R82). -/
structure InPorts where
  pReady      : Bool
  hsNak       : Bool
  txValid     : Bool
  txData      : Byte
  txFirst     : Bool
  txLast      : Bool
  txZlp       : Bool
  txPidToggle : Bool
  deriving DecidableEq, Repr

/-- MBIN's `p_ready` and the stream it drives into its inner INEP in a tick (R83). -/
structure MbPorts where
  pReady : Bool
  iValid : Bool
  iData  : Byte
  iFirst : Bool
  iLast  : Bool
  deriving DecidableEq, Repr

/-- Every output and internal wire of a tick (R81-R85). -/
structure Outputs where
  tf   : TfPorts
  bd   : BdPorts
  outp : OutPorts
  inp  : InPorts
  mb   : MbPorts
  deriving DecidableEq, Repr

/-! ## The state -/

/-- The machine. `regs` are the registers: in a tick, the pre-state (R16). `nxt` are the values scheduled for the next
tick by `r <- v` (R16; the model's own field, log 4). -/
structure State where
  /-- The construction parameters (R12); no step writes them. -/
  cfg    : Cfg
  regs   : Regs
  nxt    : Regs
  /-- The input ports of the current tick; between ticks, those of the last one, whose levels persist (R107). -/
  inp    : Inputs
  /-- The outputs and wires of the current tick; between ticks, those of the last one. -/
  out    : Outputs
  /-- The inputs of the ticks to come, chosen by the agents outside the core (R30, R107). -/
  script : List Line
  /-- How many ticks were taken: the index of the free values (log 7). The model's own. -/
  draws  : Nat
  /-- model-only `fault` (R44) of the OUT instance: none, or the first model fault it reached. -/
  outFault : Option Fault
  /-- model-only `fault` (R44) of the IN instance: each instance "has its own copy of all the state" (R49). -/
  inFault  : Option Fault
  deriving DecidableEq, Repr

/-! ## Reset -/

/-- The registers after reset (R46). `hold_data`, `shreg`, `cnt`, `lat_first` and `lat_last` are "unspecified" there:
0, DESIGN CHOICE (log 6). -/
def Regs.reset : Regs where
  tf := { mem := [], crp := 0, nRc := 0, nC := 0, nS := 0 }
  bd := { holdValid := false, holdData := 0#8, isFirstByte := true }
  expectedDataToggle := false
  inep := { inToggle := false, pbuf := [], fillLen := 0, staged := false, zlpPending := false, txActive := false,
            txIdx := 0, awaitingAck := false, prevOffer := none }
  mb := { mbState := .idle, shreg := 0, cnt := 0, latFirst := false, latLast := false, prevOffer := none }

/-- Inputs before the first tick: strobes 0, levels "start at 0" (R107). -/
def Inputs.zero : Inputs where
  rst := false
  inRst := false
  tokEp := 0#4
  tokOut := false
  tokIn := false
  dataReq := false
  pingReq := false
  rxPidToggle := false
  rxNext := false
  rxData := 0#8
  rxComplete := false
  rxInvalid := false
  sReady := false
  inReq := false
  hsInAck := false
  txReady := false
  pValid := false
  pData := 0
  pFirst := false
  pLast := false
  we := false
  wd := 0#10
  wc := false
  wdis := false
  re := false
  rc := false
  rdis := false

/-- Outputs before the first tick: every one idle, DESIGN CHOICE (log 13): R45 gives the flags "right after reset" as
the first tick computes them. -/
def Outputs.idle : Outputs where
  tf := { we := false, wd := 0#10, wc := false, wdis := false, re := false, rc := false, rdis := false,
          readData := 0#10, empty := false, full := false, spaceAvailable := 0, runSpace := 0 }
  bd := { bdNext := false, bdData := 0#8, bdFirst := false, bdLast := false, bdComplete := false, bdInvalid := false }
  outp := { hsAck := false, hsNak := false, sValid := false, sData := 0#8, sFirst := false, sLast := false }
  inp := { pReady := false, hsNak := false, txValid := false, txData := 0#8, txFirst := false, txLast := false,
           txZlp := false, txPidToggle := false }
  mb := { pReady := false, iValid := false, iData := 0#8, iFirst := false, iLast := false }

/-- The machine of configuration `c` right after reset (R46, R295), with no input chosen yet. -/
def State.resetOf (c : Cfg) : State where
  cfg := c
  regs := Regs.reset
  nxt := Regs.reset
  inp := Inputs.zero
  out := Outputs.idle
  script := []
  draws := 0
  outFault := none
  inFault := none

/-- The machine right after reset (R46), for the spec's own example configuration (log 1). -/
def State.reset : State := State.resetOf Cfg.scenario

end Sys2Proof.Machine
end

