-- ==== Sys2Proof/Machine/Ops.lean ====
section
/-! DEFINITION. The named operations over the arrays, the registers and the outputs, and raising a model fault
(00_scope.md R16-R18, 60_exceptions.md R270-R271). -/

namespace Sys2Proof.Machine

/-- What every step and every operation answers. -/
abbrev Result := Host.Outcome State Fault Refusal

/-! ## Arrays (R17: `MemRead(a, 1)`, `MemWrite(a, 1, v)`) -/

/-- The value listed at index `a`, if any. -/
def Cells.find? {α : Type} : Cells α → Nat → Option α
  | [], _ => none
  | (b, v) :: m, a => if a = b then some v else Cells.find? m a

/-- Array `m` with `v` at index `a`, indices strictly rising. -/
def Cells.write {α : Type} : Cells α → Nat → α → Cells α
  | [], a, v => [(a, v)]
  | (b, w) :: m, a, v =>
    if a < b then (a, v) :: (b, w) :: m
    else if a = b then (a, v) :: m
    else (b, w) :: Cells.write m a v

/-- Every listed index is at least `lo`, and the indices rise strictly. -/
def Cells.risesFrom {α : Type} : Nat → Cells α → Bool
  | _, [] => true
  | lo, (b, _) :: m => decide (lo ≤ b) && Cells.risesFrom (b + 1) m

/-- The canonical form: indices strictly rising. An unlisted index holds no value (log 5), so every listed value
differs from what an unlisted index holds. -/
def Memory.wf {α : Type} (m : Cells α) : Bool := Cells.risesFrom 0 m

/-- Every listed index is below `n`. -/
def Cells.below {α : Type} (n : Nat) (m : Cells α) : Bool := m.all fun c => decide (c.1 < n)

/-- `MemRead(a, 1)` of the TFIFO's `mem` (R17, R115); an entry never written holds the free `Config.memInit a`. -/
def readMem (m : Cells Entry) (a : Nat) : Entry := (Cells.find? m a).getD (Config.memInit a)

/-- `pbuf[a]` (R17, R212); a byte never written holds the free `Config.pbufInit a`. -/
def readPbuf (m : Cells Byte) (a : Nat) : Byte := (Cells.find? m a).getD (Config.pbufInit a)

/-! ## Scheduling registers (`r <- v`, R16) and driving outputs (`name := expression`, R16) -/

/-- Schedule the TFIFO's registers. -/
def State.schedTf (f : Tfifo → Tfifo) (s : State) : State := { s with nxt := { s.nxt with tf := f s.nxt.tf } }

/-- Schedule the BD's registers. -/
def State.schedBd (f : Bd → Bd) (s : State) : State := { s with nxt := { s.nxt with bd := f s.nxt.bd } }

/-- Schedule `expected_data_toggle`. -/
def State.schedToggle (b : Bool) (s : State) : State := { s with nxt := { s.nxt with expectedDataToggle := b } }

/-- Schedule the INEP's registers. -/
def State.schedInep (f : Inep → Inep) (s : State) : State := { s with nxt := { s.nxt with inep := f s.nxt.inep } }

/-- Schedule the MBIN's registers. -/
def State.schedMb (f : Mbin → Mbin) (s : State) : State := { s with nxt := { s.nxt with mb := f s.nxt.mb } }

/-- Drive the TFIFO's ports. -/
def State.driveTf (f : TfPorts → TfPorts) (s : State) : State := { s with out := { s.out with tf := f s.out.tf } }

/-- Drive the BD's outputs. -/
def State.driveBd (f : BdPorts → BdPorts) (s : State) : State := { s with out := { s.out with bd := f s.out.bd } }

/-- Drive OUTEP's outputs. -/
def State.driveOut (f : OutPorts → OutPorts) (s : State) : State := { s with out := { s.out with outp := f s.out.outp } }

/-- Drive INEP's outputs. -/
def State.driveIn (f : InPorts → InPorts) (s : State) : State := { s with out := { s.out with inp := f s.out.inp } }

/-- Drive MBIN's outputs. -/
def State.driveMb (f : MbPorts → MbPorts) (s : State) : State := { s with out := { s.out with mb := f s.out.mb } }

/-! ## The two instances (R49, R278) -/

/-- The state with the OUT instance's registers and outputs taken from `a`. -/
def State.takeOut (s a : State) : State :=
  { s with
    regs := { s.regs with tf := a.regs.tf, bd := a.regs.bd, expectedDataToggle := a.regs.expectedDataToggle }
    nxt := { s.nxt with tf := a.nxt.tf, bd := a.nxt.bd, expectedDataToggle := a.nxt.expectedDataToggle }
    out := { s.out with tf := a.out.tf, bd := a.out.bd, outp := a.out.outp } }

/-- The state with the IN instance's registers and outputs taken from `a`. -/
def State.takeIn (s a : State) : State :=
  { s with
    regs := { s.regs with inep := a.regs.inep, mb := a.regs.mb }
    nxt := { s.nxt with inep := a.nxt.inep, mb := a.nxt.mb }
    out := { s.out with inp := a.out.inp, mb := a.out.mb } }

/-! ## Model faults -/

/-- `raise Fault(MFn)` (R17, R263): the one way every row and the tick take a model fault. "The step returns
`Fault(MFn)` and no state changes" (R104). -/
def raise (f : Fault) : Result := .fault f

/-- What a faulting tick leaves of the OUT instance (R271): "a faulting tick changes no hardware state; the model-only
`fault` register records the code". There is no return from it (R268). -/
def State.recordOut (f : Fault) (s : State) : State := { s with outFault := some f }

/-- What a faulting tick leaves of the IN instance (R271). -/
def State.recordIn (f : Fault) (s : State) : State := { s with inFault := some f }

/-- Raise `f` where its condition holds, else go on in `s`. -/
def unlessFault (cond : Bool) (f : Fault) (s : State) : Result := if cond then raise f else .next s

/-- Run `g` after an answer that is a next state; a fault or a refusal stays. -/
def andThen (r : Result) (g : State → Result) : Result :=
  match r with
  | .next s => g s
  | .fault f => .fault f
  | .refused q => .refused q

end Sys2Proof.Machine
end

