-- ==== Sys2Proof/Machine/Operands.lean ====
section
/-! DEFINITION. What the operations read: the ports of a tick (30_encoding.md R81-R84, R107), the ring indices
(10_state.md R37), the entry layout (R86), the producer streams (R82, R83, R242), the byte order (R64). -/

namespace Sys2Proof.Machine

/-! ## Ports from the event script -/

/-- The ports of a tick from its script line and the previous tick's ports (R107): strobes are 0 unless written, levels
"keep the last value written". -/
def resolve (prev : Inputs) (l : Line) : Inputs where
  rst := l.rst
  inRst := l.inRst
  tokEp := l.tokEp.getD prev.tokEp
  tokOut := l.tokOut.getD prev.tokOut
  tokIn := l.tokIn.getD prev.tokIn
  dataReq := l.dataReq
  pingReq := l.pingReq
  rxPidToggle := l.rxPidToggle.getD prev.rxPidToggle
  rxNext := l.rxNext
  rxData := l.rxData
  rxComplete := l.rxComplete
  rxInvalid := l.rxInvalid
  sReady := l.sReady.getD prev.sReady
  inReq := l.inReq
  hsInAck := l.hsInAck
  txReady := l.txReady.getD prev.txReady
  pValid := l.pValid.getD prev.pValid
  pData := l.pData.getD prev.pData
  pFirst := l.pFirst.getD prev.pFirst
  pLast := l.pLast.getD prev.pLast
  we := l.we
  wd := l.wd
  wc := l.wc
  wdis := l.wdis
  re := l.re
  rc := l.rc
  rdis := l.rdis

/-- The ports of the next tick. An exhausted script is an idle line: no strobe, the levels held (R107, `IDLE`; log 3). -/
def State.nextInputs (s : State) : Inputs := resolve s.inp (s.script.headD {})

/-! ## TFIFO indices (R37) -/

/-- `rp := (crp + n_rc) mod TF_DEPTH`. -/
def Tfifo.rp (depth : Nat) (t : Tfifo) : Nat := (t.crp + t.nRc) % depth

/-- `cwp := (crp + n_c) mod TF_DEPTH`. -/
def Tfifo.cwp (depth : Nat) (t : Tfifo) : Nat := (t.crp + t.nC) % depth

/-- `wp := (crp + n_c + n_s) mod TF_DEPTH`. -/
def Tfifo.wp (depth : Nat) (t : Tfifo) : Nat := (t.crp + t.nC + t.nS) % depth

/-! ## Entry layout (R86) -/

/-- `{first, last, data}`: data in [7:0], `last` in [8], `first` in [9]. -/
def packEntry (first last : Bool) (data : Byte) : Entry :=
  BitVec.ofBool first ++ BitVec.ofBool last ++ data

/-- Field `data` of an entry. -/
def entryData (e : Entry) : Byte := e.extractLsb' 0 8

/-- Field `last` of an entry. -/
def entryLast (e : Entry) : Bool := e.getLsbD 8

/-- Field `first` of an entry. -/
def entryFirst (e : Entry) : Bool := e.getLsbD 9

/-! ## Producer streams -/

/-- One tick of a byte stream that INEP consumes: `p_valid`, `p_data`, `p_first`, `p_last` (R82). -/
structure ByteStream where
  valid : Bool
  data  : Byte
  first : Bool
  last  : Bool
  deriving DecidableEq, Repr

/-- INEP's producer port: the core's own ports, or what MBIN drives (R83, R240). -/
def State.inepIn (s : State) : ByteStream :=
  match s.cfg.inSide with
  | .inep => ⟨s.inp.pValid, BitVec.ofNat 8 s.inp.pData, s.inp.pFirst, s.inp.pLast⟩
  | .mbin => ⟨s.out.mb.iValid, s.out.mb.iData, s.out.mb.iFirst, s.out.mb.iLast⟩

/-- `p_data` at an MBIN: its `8·W` bits (R83). -/
def State.word (s : State) : Nat := s.inp.pData % 2 ^ (8 * s.cfg.wordBytes)

/-- `shreg[7:0]`, the byte presented (R242): the least significant byte first (R64). -/
def lowByte (shreg : Nat) : Byte := BitVec.ofNat 8 shreg

/-- `shreg >> 8`, logical, zero fill (R246). -/
def shiftByte (shreg : Nat) : Nat := shreg / 256

/-- `offer_retracted_or_changed(prev_offer, p_valid, p_data, p_first, p_last)` (R225, R253; MF8 of R270): an offer is
pending and `p_valid = 0`, or the payload, `first` or `last` differs from it. -/
def retractedOrChanged (prev : Option Offer) (valid : Bool) (now : Offer) : Bool :=
  match prev with
  | none => false
  | some o => !(valid && o == now)

/-- What `prev_offer` records at the end of a tick (R44, R225): the offer when `valid ∧ ¬ready`, else none. -/
def pendingOffer (valid ready : Bool) (now : Offer) : Option Offer :=
  if valid && !ready then some now else none

/-- The offer on INEP's producer port. -/
def State.inepOffer (s : State) : Offer := ⟨s.inepIn.data.toNat, s.inepIn.first, s.inepIn.last⟩

/-- The offer on MBIN's producer port. -/
def State.mbinOffer (s : State) : Offer := ⟨s.word, s.inp.pFirst, s.inp.pLast⟩

end Sys2Proof.Machine
end

