-- ==== Sys2Proof/Machine/Flags.lean ====
section
/-! DEFINITION. Every status flag and combinational condition (10_state.md R45, 30_encoding.md R103), the outputs a
tick presents before any row runs, the event vectors (R92-R102), the fault conditions with their priority
(60_exceptions.md R270, R272), and the condition codes (R261). -/

namespace Sys2Proof.Machine

/-! ## TFIFO (40_skid_buffer.md R111-R114) -/

/-- `empty := (n_c − n_rc == 0)` (R112). -/
def Tfifo.empty (t : Tfifo) : Bool := t.nC - t.nRc == 0

/-- `full := (n_c + n_s == TF_DEPTH)` (R113). -/
def Tfifo.full (depth : Nat) (t : Tfifo) : Bool := t.nC + t.nS == depth

/-- `space_available := TF_DEPTH − n_c − n_s` (R114). -/
def Tfifo.spaceAvailable (depth : Nat) (t : Tfifo) : Nat := depth - t.nC - t.nS

/-- `run_space := TF_DEPTH − n_c` (R114). -/
def Tfifo.runSpace (depth : Nat) (t : Tfifo) : Nat := depth - t.nC

/-- `w := we ∧ ¬full` (R111), as a count. -/
def State.effWrite (s : State) : Nat := if s.out.tf.we && !s.regs.tf.full s.cfg.bufDepth then 1 else 0

/-- `r := re ∧ ¬empty` (R111), as a count. -/
def State.effRead (s : State) : Nat := if s.out.tf.re && !s.regs.tf.empty then 1 else 0

/-! ## OUTEP (42_out_endpoint.md R162-R169) -/

/-- `targeting_endpoint := (tok_ep == EP_NUM) ∧ tok_out` (R162). -/
def State.targetingEndpoint (s : State) : Bool := s.inp.tokEp.toNat == s.cfg.outEp && s.inp.tokOut

/-- `expected_pid_match := (rx_pid_toggle == expected_data_toggle)` (R163). -/
def State.expectedPidMatch (s : State) : Bool := s.inp.rxPidToggle == s.regs.expectedDataToggle

/-- `sufficient_space := (run_space ≥ MPS)` (R164). -/
def State.sufficientSpace (s : State) : Bool := decide (s.cfg.outMps ≤ s.regs.tf.runSpace s.cfg.bufDepth)

/-- `okay_to_receive` (R165). -/
def State.okayToReceive (s : State) : Bool := s.targetingEndpoint && s.sufficientSpace && s.expectedPidMatch

/-- `should_skip` (R166). -/
def State.shouldSkip (s : State) : Bool := s.targetingEndpoint && !s.expectedPidMatch

/-- `data_resp_req` (R167). -/
def State.dataRespReq (s : State) : Bool := s.inp.dataReq && s.targetingEndpoint

/-- `ping_resp_req` (R167). -/
def State.pingRespReq (s : State) : Bool := s.inp.pingReq && s.targetingEndpoint

/-- The ACK equation (R168). -/
def State.hsAckEq (s : State) : Bool :=
  (s.dataRespReq && s.okayToReceive) || (s.pingRespReq && s.okayToReceive) || (s.dataRespReq && s.shouldSkip)

/-- The NAK equation (R169). -/
def State.hsNakEq (s : State) : Bool :=
  (s.dataRespReq && !s.okayToReceive && !s.shouldSkip) || (s.pingRespReq && !s.okayToReceive)

/-- Whether the BD emits a byte this tick (R144, R145, R147): a byte is held, and a byte or a verdict arrives. -/
def State.bdEmits (s : State) : Bool :=
  s.regs.bd.holdValid && (s.inp.rxNext || s.inp.rxComplete || s.inp.rxInvalid)

/-! ## INEP (43_in_endpoint.md R201, R202, R212) -/

/-- `targeting_in := tok_in ∧ (tok_ep == EP_NUM)` (R201). -/
def State.targetingIn (s : State) : Bool := s.inp.tokIn && s.inp.tokEp.toNat == s.cfg.inEp

/-- `p_ready := ¬staged ∧ ¬zlp_pending` (R202). -/
def Inep.ready (n : Inep) : Bool := !n.staged && !n.zlpPending

/-- `xfer(p) := p_valid ∧ p_ready` (R202). -/
def State.xferP (s : State) : Bool := s.inepIn.valid && s.regs.inep.ready

/-- `fills := (fill_len + 1 == MPS)` (R97). -/
def State.fills (s : State) : Bool := s.regs.inep.fillLen + 1 == s.cfg.inMps

/-- `tx_idx == fill_len − 1` (R212), in exact arithmetic (R15; log 17). -/
def Inep.atLast (n : Inep) : Bool := n.txIdx + 1 == n.fillLen

/-- `tx_last := tx_active ∧ (tx_idx == fill_len − 1)` (R212). -/
def Inep.txLast (n : Inep) : Bool := n.txActive && n.atLast

/-- `ack_match := targeting_in ∧ awaiting_ack` (R100). -/
def State.ackMatch (s : State) : Bool := s.targetingIn && s.regs.inep.awaitingAck

/-! ## MBIN (44_word_adapter.md R242) -/

/-- `cnt_zero := (cnt == 0)` (R242). -/
def Mbin.cntZero (m : Mbin) : Bool := m.cnt == 0

/-- Whether `mb_state` is `TRANSMIT`: b0 of `EV_MB` (R101). -/
def Mbin.transmitting (m : Mbin) : Bool := m.mbState == .transmit

/-! ## Outputs before any row runs -/

/-- The TFIFO's ports: its outputs from the pre-state (R112-R115); its inputs as the ports give them (R84) or, inside
OUTEP, before the rows of `EV_OUTRX` and `EV_OUTSTR` drive them: `rc := 1` in every tick, `rdis := 0` (R188). In a reset
tick no row drives them and `we`, `wc`, `wdis` stand at 0, DESIGN CHOICE (log 25). -/
def tfPorts (c : Cfg) (r : Regs) (i : Inputs) (n : Nat) : TfPorts where
  we := match c.outSide with | .outep => false | .tfifoAlone => i.we
  wd := match c.outSide with | .outep => packEntry false false (Config.freeBdData n) | .tfifoAlone => i.wd
  wc := match c.outSide with | .outep => false | .tfifoAlone => i.wc
  wdis := match c.outSide with | .outep => false | .tfifoAlone => i.wdis
  re := match c.outSide with | .outep => false | .tfifoAlone => i.re
  rc := match c.outSide with | .outep => true | .tfifoAlone => i.rc
  rdis := match c.outSide with | .outep => false | .tfifoAlone => i.rdis
  readData := if r.tf.empty then Config.freeReadData n else readMem r.tf.mem (r.tf.rp c.bufDepth)
  empty := r.tf.empty
  full := r.tf.full c.bufDepth
  spaceAvailable := r.tf.spaceAvailable c.bufDepth
  runSpace := r.tf.runSpace c.bufDepth

/-- The BD's default outputs (R141), which stand where no row drives them: in a reset tick, DESIGN CHOICE (log 25). -/
def bdPorts (i : Inputs) (n : Nat) : BdPorts where
  bdNext := false
  bdData := Config.freeBdData n
  bdFirst := false
  bdLast := false
  bdComplete := i.rxComplete
  bdInvalid := i.rxInvalid

/-- OUTEP's outputs: the consumer stream from `read_data` (R184); no handshake until a row asserts one. -/
def outPorts (t : TfPorts) : OutPorts where
  hsAck := false
  hsNak := false
  sValid := !t.empty
  sData := entryData t.readData
  sFirst := entryFirst t.readData
  sLast := entryLast t.readData

/-- INEP's outputs from the pre-state (R91, R202, R212); no NAK and no ZLP until a row asserts one. -/
def inPorts (r : Inep) (n : Nat) : InPorts where
  pReady := r.ready
  hsNak := false
  txValid := r.txActive
  txData := if r.txActive then readPbuf r.pbuf r.txIdx else Config.freeTxData n
  txFirst := r.txActive && r.txIdx == 0
  txLast := r.txLast
  txZlp := false
  txPidToggle := r.inToggle

/-- MBIN's outputs (R241 in `IDLE`, R242 in `TRANSMIT`). -/
def mbPorts (c : Cfg) (r : Regs) (n : Nat) : MbPorts :=
  match r.mb.mbState with
  | .idle =>
    { pReady := true, iValid := false, iData := Config.freeIData n, iFirst := Config.freeIFirst n,
      iLast := Config.freeILast n }
  | .transmit =>
    { pReady := r.inep.ready && r.mb.cntZero, iValid := true, iData := lowByte r.mb.shreg,
      iFirst := r.mb.latFirst && r.mb.cnt == c.wordBytes - 1, iLast := r.mb.latLast && r.mb.cntZero }

/-- Every output of a tick before any row runs, from the inputs and the pre-state alone (R18). -/
def presented (c : Cfg) (r : Regs) (i : Inputs) (n : Nat) : Outputs where
  tf := tfPorts c r i n
  bd := bdPorts i n
  outp := outPorts (tfPorts c r i n)
  inp := inPorts r.inep n
  mb := mbPorts c r n

/-! ## Event vectors (R92-R102) -/

/-- The bits b0, b1, ... of each event vector, assembled from the ports, the wires and the pre-state (R103). -/
def State.ev (v : Vec) (s : State) : List Bool :=
  match v with
  | .tf => [s.out.tf.we, s.regs.tf.full s.cfg.bufDepth, s.out.tf.wc, s.out.tf.wdis, s.out.tf.re,
      s.regs.tf.empty, s.out.tf.rc, s.out.tf.rdis]
  | .bd => [s.inp.rxNext, s.inp.rxComplete, s.inp.rxInvalid, s.regs.bd.holdValid]
  | .outResp => [s.inp.dataReq, s.inp.pingReq, s.targetingEndpoint, s.sufficientSpace, s.expectedPidMatch]
  | .outRx => [s.out.bd.bdNext, s.okayToReceive, s.out.bd.bdComplete, s.out.bd.bdInvalid]
  | .outStr => [!s.regs.tf.empty, s.inp.sReady]
  | .inFill => [s.xferP, s.inepIn.last, s.fills]
  | .inTok => [s.inp.inReq, s.targetingIn, s.regs.inep.staged, s.regs.inep.zlpPending, s.regs.inep.txActive]
  | .inTx => [s.regs.inep.txActive, s.inp.txReady, s.regs.inep.txLast]
  | .inAck => [s.inp.hsInAck, s.ackMatch, s.regs.inep.staged]
  | .mb => [s.regs.mb.transmitting, s.inp.pValid, s.regs.inep.ready, s.regs.mb.cntZero]
  | .rst => [s.inp.rst]

/-- The vectors of the OUT side, in the order the data flows through them (R161, R188): BD, then OUTEP's handshake,
buffering and stream rows, then the TFIFO they drive. -/
def outVecs (c : Cfg) : List Vec :=
  match c.outSide with
  | .outep => [.bd, .outResp, .outRx, .outStr, .tf]
  | .tfifoAlone => [.tf]

/-- The vectors of the IN side (R240): MBIN, then the four sides of INEP in the order of R225 (log 4). -/
def inVecs (c : Cfg) : List Vec :=
  match c.inSide with
  | .inep => [.inFill, .inTok, .inTx, .inAck]
  | .mbin => [.mb, .inFill, .inTok, .inTx, .inAck]

/-! ## Fault conditions (R270) -/

/-- MF1, of BD / OUTEP. -/
def State.mf1 (s : State) : Bool := s.cfg.outSide == .outep && s.inp.rxComplete && s.inp.rxInvalid

/-- MF2, of BD / OUTEP. -/
def State.mf2 (s : State) : Bool := s.cfg.outSide == .outep && s.inp.rxNext && (s.inp.rxComplete || s.inp.rxInvalid)

/-- MF3, of OUTEP. -/
def State.mf3 (s : State) : Bool := s.cfg.outSide == .outep && s.inp.dataReq && s.inp.pingReq

/-- MF4, of OUTEP. -/
def State.mf4 (s : State) : Bool :=
  s.cfg.outSide == .outep && s.inp.dataReq && s.targetingEndpoint && !s.inp.rxComplete

/-- MF5, of the TFIFO. In OUTEP, `wc = rx_complete` and `wdis = rx_invalid` (R197, R141). -/
def State.mf5 (s : State) : Bool :=
  match s.cfg.outSide with
  | .outep => s.inp.rxComplete && s.inp.rxInvalid
  | .tfifoAlone => s.inp.wc && s.inp.wdis

/-- MF6, of the TFIFO. In OUTEP it "cannot occur, because `rdis = 0`". -/
def State.mf6 (s : State) : Bool :=
  match s.cfg.outSide with
  | .outep => false
  | .tfifoAlone => s.inp.rc && s.inp.rdis

/-- MF7, of the TFIFO. In OUTEP, `we = okay ∧ bd_next` (R197). -/
def State.mf7 (s : State) : Bool :=
  match s.cfg.outSide with
  | .outep => s.okayToReceive && s.bdEmits && s.regs.tf.full s.cfg.bufDepth
  | .tfifoAlone => s.inp.we && s.regs.tf.full s.cfg.bufDepth

/-- MF8 on INEP's producer port. -/
def State.mf8In (s : State) : Bool := retractedOrChanged s.regs.inep.prevOffer s.inepIn.valid s.inepOffer

/-- MF8 on MBIN's producer port. -/
def State.mf8Mb (s : State) : Bool := retractedOrChanged s.regs.mb.prevOffer s.inp.pValid s.mbinOffer

/-- MF8 of the machine: on each stream its IN side consumes (R44). -/
def State.mf8 (s : State) : Bool :=
  match s.cfg.inSide with
  | .inep => s.mf8In
  | .mbin => s.mf8Mb || s.mf8In

/-- MF9, of INEP. -/
def State.mf9 (s : State) : Bool := s.inp.inReq && s.targetingIn && s.regs.inep.txActive

/-- MF10, of OUTEP / INEP: each instance takes it for itself. -/
def State.mf10 (s : State) : Bool := s.inp.tokOut && s.inp.tokIn

/-- MF11, of INEP. -/
def State.mf11 (s : State) : Bool := s.inp.inReq && s.inp.hsInAck

/-- The fault of the OUT instance's tick, if any: the first in the order of R272 of its own conditions. A standalone TFIFO
has no token port (R84) and so no MF10. -/
def State.outTickFault (s : State) : Option Fault :=
  if s.cfg.outSide == .outep && s.mf10 then some .tokenBothDirections
  else if s.mf1 then some .bothVerdicts
  else if s.mf2 then some .byteWithVerdict
  else if s.mf3 then some .bothRequests
  else if s.mf4 then some .responseTiming
  else if s.mf5 then some .commitAndDiscard
  else if s.mf6 then some .commitAndUnread
  else if s.mf7 then some .overrun
  else none

/-- The fault of the IN instance's tick, if any: the first in the order of R272 of its own conditions. -/
def State.inTickFault (s : State) : Option Fault :=
  if s.mf10 then some .tokenBothDirections
  else if s.mf11 then some .inReqWithAck
  else if s.mf9 then some .inReqDuringTx
  else if s.mf8 then some .offerRetracted
  else none

/-- The place of a fault in the order of R272. -/
def Fault.rank : Fault → Nat
  | .tokenBothDirections => 1
  | .bothVerdicts => 2
  | .byteWithVerdict => 3
  | .bothRequests => 4
  | .responseTiming => 5
  | .inReqWithAck => 6
  | .inReqDuringTx => 7
  | .offerRetracted => 8
  | .commitAndDiscard => 9
  | .commitAndUnread => 10
  | .overrun => 11

/-- "When several faults hold in one tick, the one reported is the first in this order" (R272): of two. -/
def firstFault (f g : Fault) : Fault := if g.rank < f.rank then g else f

/-! ## Condition codes (R261) -/

/-- The error conditions of the document. "A condition code is not stored, reported or signalled." -/
inductive Condition where
  /-- E1 CRC_INVALID (R262). -/
  | crcInvalid
  /-- E2 NO_SPACE (R264). -/
  | noSpace
  /-- E3 PID_MISMATCH (R265). -/
  | pidMismatch
  /-- E4 MISCONFIG (R266). -/
  | misconfig
  /-- E5 IN_NOTHING_TO_SEND (R267). -/
  | inNothingToSend
  deriving DecidableEq, Repr

/-- The condition a row's firing raises: "Raised by" of R262, R264, R265, R267. -/
def rowCondition (i : Instr) : Option Condition :=
  if i = .bdEndInvalid ∨ i = .bdEndInvalidEmpty then some .crcInvalid
  else if i = .outDataNak ∨ i = .outPingNakNospace then some .noSpace
  else if i = .outDataSkip then some .pidMismatch
  else if i = .inNak then some .inNothingToSend
  else none

/-- The condition a configuration raises at construction, for an instance that is asked for and fails R296 (R266). -/
def cfgCondition (c : Cfg) : Option Condition :=
  if (c.hasOut && !c.outLegal) || (c.hasIn && !c.inLegal) then some .misconfig else none

end Sys2Proof.Machine
end

