-- ==== Sys2Proof/Machine/Boundary.lean ====
section
/-! DEFINITION. The operations of the BD (41_boundary_detector.md R142-R148) and the illegal rows of `EV_BD` (R93). The
default outputs of R141 stand before a row runs (`bdPorts`). -/

namespace Sys2Proof.Machine

/-- The BD emits the held byte (R144, R145, R147): `bd_next := 1`, `bd_data := hold_data`,
`bd_first := is_first_byte`, and `bd_last` as given. -/
def State.emitHeld (last : Bool) (s : State) : State :=
  s.driveBd fun b =>
    { b with bdNext := true, bdData := s.regs.bd.holdData, bdFirst := s.regs.bd.isFirstByte, bdLast := last }

/-- The BD's hold is released at a verdict (R145, R147): `hold_valid <- 0`; `is_first_byte <- 1`. -/
def State.releaseHold (s : State) : State := s.schedBd fun b => { b with holdValid := false, isFirstByte := true }

/-- BD_IDLE (R142): default outputs; no state changes. -/
def execBdIdle (s : State) : Result := .next s

/-- BD_CAPTURE (R143): nothing is emitted; `hold_data <- rx_data`; `hold_valid <- 1`. -/
def execBdCapture (s : State) : Result :=
  .next (s.schedBd fun b => { b with holdValid := true, holdData := s.inp.rxData })

/-- BD_RELAY (R144): the held byte is emitted, not last; `hold_data <- rx_data`; `is_first_byte <- 0`. -/
def execBdRelay (s : State) : Result :=
  .next ((s.emitHeld false).schedBd fun b => { b with holdData := s.inp.rxData, isFirstByte := false })

/-- BD_END_COMPLETE (R145): the held byte is emitted, last; `bd_complete := 1`; the hold is released. -/
def execBdEndComplete (s : State) : Result :=
  .next (((s.emitHeld true).driveBd fun b => { b with bdComplete := true }).releaseHold)

/-- BD_END_COMPLETE_EMPTY (R146): `bd_complete := 1`; no byte; `is_first_byte <- 1`. -/
def execBdEndCompleteEmpty (s : State) : Result :=
  .next ((s.driveBd fun b => { b with bdComplete := true }).schedBd fun b => { b with isFirstByte := true })

/-- BD_END_INVALID (R147): the held byte is emitted, last; `bd_invalid := 1`; the hold is released. -/
def execBdEndInvalid (s : State) : Result :=
  .next (((s.emitHeld true).driveBd fun b => { b with bdInvalid := true }).releaseHold)

/-- BD_END_INVALID_EMPTY (R148): `bd_invalid := 1`; nothing is emitted; `is_first_byte <- 1`. -/
def execBdEndInvalidEmpty (s : State) : Result :=
  .next ((s.driveBd fun b => { b with bdInvalid := true }).schedBd fun b => { b with isFirstByte := true })

/-- The illegal row `complete ∧ invalid` of `EV_BD` (R93, R104): MF1. -/
def execIllegalBdMf1CompleteInvalid (_ : State) : Result := raise .bothVerdicts

/-- The illegal row `next ∧ complete` of `EV_BD` (R93, R104): MF2. -/
def execIllegalBdMf2NextComplete (_ : State) : Result := raise .byteWithVerdict

/-- The illegal row `next ∧ invalid` of `EV_BD` (R93, R104): MF2. -/
def execIllegalBdMf2NextInvalid (_ : State) : Result := raise .byteWithVerdict

end Sys2Proof.Machine
end

