-- ==== Sys2Proof/Machine/InEndpoint.lean ====
section
/-! DEFINITION. The operations of INEP (43_in_endpoint.md R203-R218, R226, R227) and the illegal row of `EV_INTOK`
(R98). -/

namespace Sys2Proof.Machine

/-! ## Fill side (`EV_INFILL`) -/

/-- "Exceptions: MF8 if the previous tick's offer was retracted or changed" (R203-R207): raised, else go on. -/
def State.keepsOffer (s t : State) : Result := unlessFault s.mf8In .offerRetracted t

/-- `pbuf[fill_len] <- p_data`, with `fill_len`, and what closes the packet, as given (R203-R206). -/
def State.fillByte (len : Nat) (close zlp : Bool) (s : State) : State :=
  s.schedInep fun n =>
    { n with pbuf := Cells.write n.pbuf s.regs.inep.fillLen s.inepIn.data, fillLen := len,
             staged := n.staged || close, zlpPending := n.zlpPending || zlp }

/-- IN_FILL_BYTE (R203): the byte is stored; `fill_len <- fill_len + 1`. -/
def execInFillByte (s : State) : Result := s.keepsOffer (s.fillByte (s.regs.inep.fillLen + 1) false false)

/-- IN_CLOSE_SHORT (R204): the byte is stored; `fill_len <- fill_len + 1`; `staged <- 1`. -/
def execInCloseShort (s : State) : Result := s.keepsOffer (s.fillByte (s.regs.inep.fillLen + 1) true false)

/-- IN_CLOSE_FULL (R205): the byte is stored; `fill_len <- MPS`; `staged <- 1`. -/
def execInCloseFull (s : State) : Result := s.keepsOffer (s.fillByte s.cfg.inMps true false)

/-- IN_CLOSE_FULL_LAST (R206): the byte is stored; `fill_len <- MPS`; `staged <- 1`; `zlp_pending <- 1`
(`GENERATE_ZLPS`, R12). -/
def execInCloseFullLast (s : State) : Result := s.keepsOffer (s.fillByte s.cfg.inMps true Config.generateZlps)

/-- IN_FILL_IDLE (R207): no fill-side state change. -/
def execInFillIdle (s : State) : Result := s.keepsOffer s

/-! ## Token side (`EV_INTOK`) -/

/-- "Exceptions: MF11 if `hs_in_ack = 1` in the same tick" (R208-R211): raised, else go on. -/
def State.noAck (s t : State) : Result := unlessFault s.inp.hsInAck .inReqWithAck t

/-- Drive `hs_nak` and `tx_zlp` of the token side (R208-R210, R226). -/
def State.tokenOut (nak zlp : Bool) (s : State) : State := s.driveIn fun o => { o with hsNak := nak, txZlp := zlp }

/-- IN_SEND_DATA (R208): `tx_active <- 1`; `tx_idx <- 0`; `awaiting_ack <- 0`. -/
def execInSendData (s : State) : Result :=
  s.noAck ((s.tokenOut false false).schedInep fun n => { n with txActive := true, txIdx := 0, awaitingAck := false })

/-- IN_SEND_ZLP (R209): `tx_zlp := 1`; `awaiting_ack <- 1`. -/
def execInSendZlp (s : State) : Result :=
  s.noAck ((s.tokenOut false true).schedInep fun n => { n with awaitingAck := true })

/-- IN_NAK (R210): `hs_nak := 1`; no state change. -/
def execInNak (s : State) : Result := s.noAck (s.tokenOut true false)

/-- IN_REQ_NOT_TARGETED (R211): no output, no state change. -/
def execInReqNotTargeted (s : State) : Result := s.noAck s

/-- IN_TOK_IDLE (R226): `hs_nak := 0`, `tx_zlp := 0`; no token-side change. -/
def execInTokIdle (s : State) : Result := .next (s.tokenOut false false)

/-- The illegal row `in_req` while transmitting of `EV_INTOK` (R98, R104): MF9. -/
def execIllegalIntokMf9 (_ : State) : Result := raise .inReqDuringTx

/-! ## Transmit side (`EV_INTX`) -/

/-- IN_TX_BYTE (R213): `tx_idx <- tx_idx + 1`. -/
def execInTxByte (s : State) : Result := .next (s.schedInep fun n => { n with txIdx := s.regs.inep.txIdx + 1 })

/-- IN_TX_LAST (R214): `tx_active <- 0`; `tx_idx <- 0`; `awaiting_ack <- 1`. -/
def execInTxLast (s : State) : Result :=
  .next (s.schedInep fun n => { n with txActive := false, txIdx := 0, awaitingAck := true })

/-- IN_TX_WAIT (R215): no change; the same byte stays presented. -/
def execInTxWait (s : State) : Result := .next s

/-- IN_TX_IDLE (R227): `tx_valid := 0`; no transmit-side change. -/
def execInTxIdle (s : State) : Result := .next (s.driveIn fun o => { o with txValid := false })

/-! ## Host ACK side (`EV_INACK`) -/

/-- "Exceptions: MF11 if `in_req = 1` in the same tick" (R216-R218): raised, else go on. -/
def State.noReq (s t : State) : Result := unlessFault s.inp.inReq .inReqWithAck t

/-- IN_ACK_DATA (R216): `in_toggle <- ¬in_toggle`; `staged <- 0`; `fill_len <- 0`; `awaiting_ack <- 0`. -/
def execInAckData (s : State) : Result :=
  s.noReq (s.schedInep fun n =>
    { n with inToggle := !s.regs.inep.inToggle, staged := false, fillLen := 0, awaitingAck := false })

/-- IN_ACK_ZLP (R217): `in_toggle <- ¬in_toggle`; `zlp_pending <- 0`; `awaiting_ack <- 0`. -/
def execInAckZlp (s : State) : Result :=
  s.noReq (s.schedInep fun n =>
    { n with inToggle := !s.regs.inep.inToggle, zlpPending := false, awaitingAck := false })

/-- IN_ACK_IGNORED (R218): no change. -/
def execInAckIgnored (s : State) : Result := s.noReq s

end Sys2Proof.Machine
end

