-- ==== Sys2Proof/Machine/OutEndpoint.lean ====
section
/-! DEFINITION. The operations of OUTEP (42_out_endpoint.md R170-R187) and the illegal row of `EV_OUTRESP` (R94). -/

namespace Sys2Proof.Machine

/-! ## Handshake rows (`EV_OUTRESP`) -/

/-- Drive `hs_ack` and `hs_nak` in the request tick (R168, R169). -/
def State.handshake (ack nak : Bool) (s : State) : State := s.driveOut fun o => { o with hsAck := ack, hsNak := nak }

/-- "Exceptions: MF4 if `rx_complete = 0`" (R170-R172): raised, else go on in the given state. -/
def State.needsVerdict (s t : State) : Result := unlessFault (!s.inp.rxComplete) .responseTiming t

/-- OUT_DATA_ACCEPT (R170): ACK, and `expected_data_toggle <- ¬expected_data_toggle` (R179). -/
def execOutDataAccept (s : State) : Result :=
  s.needsVerdict ((s.handshake true false).schedToggle (!s.regs.expectedDataToggle))

/-- OUT_DATA_SKIP (R171): ACK; the toggle is unchanged. -/
def execOutDataSkip (s : State) : Result := s.needsVerdict (s.handshake true false)

/-- OUT_DATA_NAK (R172): NAK; the toggle is unchanged. -/
def execOutDataNak (s : State) : Result := s.needsVerdict (s.handshake false true)

/-- OUT_PING_ACK (R173): ACK; no state changes. -/
def execOutPingAck (s : State) : Result := .next (s.handshake true false)

/-- OUT_PING_NAK_NOSPACE (R174): NAK; no state changes. -/
def execOutPingNakNospace (s : State) : Result := .next (s.handshake false true)

/-- OUT_PING_NAK_PIDMISMATCH (R175): NAK; no state changes. -/
def execOutPingNakPidmismatch (s : State) : Result := .next (s.handshake false true)

/-- OUT_DATA_NOT_TARGETED (R176): no handshake; no state changes. -/
def execOutDataNotTargeted (s : State) : Result := .next (s.handshake false false)

/-- OUT_PING_NOT_TARGETED (R177): no handshake; no state changes. -/
def execOutPingNotTargeted (s : State) : Result := .next (s.handshake false false)

/-- OUT_RESP_IDLE (R178): no handshake; the toggle is unchanged. -/
def execOutRespIdle (s : State) : Result := .next (s.handshake false false)

/-- The illegal row `data_req ∧ ping_req` of `EV_OUTRESP` (R94, R104): MF3. -/
def execIllegalOutrespMf3 (_ : State) : Result := raise .bothRequests

/-! ## Buffering rows (`EV_OUTRX`) -/

/-- OUT_RX_WRITE (R180): TFIFO `we := 1`; `wd := {bd_first, bd_last, bd_data}`. "Exceptions: MF7 if the TFIFO is full". -/
def execOutRxWrite (s : State) : Result :=
  unlessFault (s.regs.tf.full s.cfg.bufDepth) .overrun
    (s.driveTf fun t => { t with we := true, wd := packEntry s.out.bd.bdFirst s.out.bd.bdLast s.out.bd.bdData })

/-- OUT_RX_DROP (R181): TFIFO `we := 0`; the byte is not stored. `wd` shows it all the same: R197 gives `wd` in every
tick. -/
def execOutRxDrop (s : State) : Result :=
  .next (s.driveTf fun t => { t with we := false, wd := packEntry s.out.bd.bdFirst s.out.bd.bdLast s.out.bd.bdData })

/-- OUT_RX_COMMIT (R182): TFIFO `wc := 1`. -/
def execOutRxCommit (s : State) : Result := .next (s.driveTf fun t => { t with wc := true })

/-- OUT_RX_DISCARD (R183): TFIFO `wdis := 1`. -/
def execOutRxDiscard (s : State) : Result := .next (s.driveTf fun t => { t with wdis := true })

/-! ## Consumer stream rows (`EV_OUTSTR`) -/

/-- OUT_STREAM_XFER (R185): TFIFO `re := 1`, `rc := 1`. -/
def execOutStreamXfer (s : State) : Result := .next (s.driveTf fun t => { t with re := true, rc := true })

/-- OUT_STREAM_WAIT (R186): `re := 0`; the same entry stays on the outputs. -/
def execOutStreamWait (s : State) : Result := .next (s.driveTf fun t => { t with re := false })

/-- OUT_STREAM_EMPTY (R187): `re := 0`; nothing is offered. -/
def execOutStreamEmpty (s : State) : Result := .next (s.driveTf fun t => { t with re := false })

end Sys2Proof.Machine
end

