-- ==== Sys2Proof/Machine/ResetRow.lean ====
section
/-! DEFINITION. RESET (70_reset_and_hazards.md R291) and the outputs of a reset tick (R292). -/

namespace Sys2Proof.Machine

/-- The registers after a reset tick (R291): the arrays, `hold_data`, `shreg`, `cnt`, `lat_first` and `lat_last` are
unchanged. -/
def Regs.afterReset (r : Regs) : Regs where
  tf := { r.tf with crp := 0, nRc := 0, nC := 0, nS := 0 }
  bd := { r.bd with holdValid := false, isFirstByte := true }
  expectedDataToggle := false
  inep := { r.inep with inToggle := false, fillLen := 0, staged := false, zlpPending := false, txActive := false,
                        txIdx := 0, awaitingAck := false, prevOffer := none }
  mb := { r.mb with mbState := .idle, prevOffer := none }

/-- The outputs R292 forces idle; `tx_first` and `tx_last` are 0 with `tx_valid = 0` (U8), and the data of the silent
streams is unspecified (U6, U8). The wires R292 does not name keep their equations (log 12), but for those that rows
drive. -/
def Outputs.forcedIdle (n : Nat) (o : Outputs) : Outputs :=
  { o with
    outp := { hsAck := false, hsNak := false, sValid := false, sData := entryData (Config.freeReadData n),
              sFirst := entryFirst (Config.freeReadData n), sLast := entryLast (Config.freeReadData n) }
    inp := { o.inp with pReady := false, hsNak := false, txValid := false, txData := Config.freeTxData n,
                        txFirst := false, txLast := false, txZlp := false }
    mb := { o.mb with pReady := false } }

/-- RESET (R291, R292): every component to its initial state; the outputs are forced idle. Inside OUTEP no other row
drives a wire: `bd_next`, `we`, `wc`, `wdis` are 0, though `bd_complete` shows `rx_complete`, DESIGN CHOICE (log 25):
R292 and R197 give them no value in a reset tick. -/
def execReset (s : State) : Result :=
  .next { s with nxt := s.regs.afterReset, out := s.out.forcedIdle s.draws }

end Sys2Proof.Machine
end

