-- ==== Sys2Proof/Machine/SkidBuffer.lean ====
section
/-! DEFINITION. The operations of the TFIFO (40_skid_buffer.md R116-R124) and the illegal rows of `EV_TF` (R92). Each
schedules its part of R125; the rows of one tick run in the order write, commit, read, read-commit. -/

namespace Sys2Proof.Machine

/-- TF_WRITE (R116): `MemWrite(wp, 1, wd)`, and the run grows by one. -/
def execTfWrite (s : State) : Result :=
  .next (s.schedTf fun t =>
    { t with mem := t.mem.write (s.regs.tf.wp s.cfg.bufDepth) s.out.tf.wd, nS := s.regs.tf.nS + 1 })

/-- TF_WRITE_FULL (R117): nothing is written and `n_s` does not grow; "the model raises fault MF7". -/
def execTfWriteFull (_ : State) : Result := raise .overrun

/-- TF_WRITE_COMMIT (R118): `n_c1 := n_c + n_s + w`; `n_s <- 0`. -/
def execTfWriteCommit (s : State) : Result :=
  .next (s.schedTf fun t => { t with nC := t.nC + s.regs.tf.nS + s.effWrite, nS := 0 })

/-- TF_WRITE_DISCARD (R119): `n_s <- 0`; a same-tick write is discarded too. -/
def execTfWriteDiscard (s : State) : Result := .next (s.schedTf fun t => { t with nS := 0 })

/-- TF_READ (R120): the reader takes `read_data`; `nrc1 := n_rc + 1`. -/
def execTfRead (s : State) : Result := .next (s.schedTf fun t => { t with nRc := s.regs.tf.nRc + 1 })

/-- TF_READ_EMPTY (R121): "no effect (`r = 0`)". -/
def execTfReadEmpty (s : State) : Result := .next s

/-- TF_READ_COMMIT (R122): `crp <- (crp + n_rc + r) mod TF_DEPTH`; the committed count falls by `n_rc + r`;
`n_rc <- 0`. -/
def execTfReadCommit (s : State) : Result :=
  .next (s.schedTf fun t =>
    { t with crp := (s.regs.tf.crp + s.regs.tf.nRc + s.effRead) % s.cfg.bufDepth,
             nC := t.nC - (s.regs.tf.nRc + s.effRead), nRc := 0 })

/-- TF_READ_DISCARD (R123): `n_rc <- 0`; a same-tick read is undone too. -/
def execTfReadDiscard (s : State) : Result := .next (s.schedTf fun t => { t with nRc := 0 })

/-- TF_NOP (R124): "no state changes". -/
def execTfNop (s : State) : Result := .next s

/-- The illegal row `wc ∧ wdis` of `EV_TF` (R92, R104): MF5. -/
def execIllegalTfMf5 (_ : State) : Result := raise .commitAndDiscard

/-- The illegal row `rc ∧ rdis` of `EV_TF` (R92, R104): MF6. -/
def execIllegalTfMf6 (_ : State) : Result := raise .commitAndUnread

end Sys2Proof.Machine
end

