-- ==== Sys2Proof/Machine/WordAdapter.lean ====
section
/-! DEFINITION. The operations of MBIN (44_word_adapter.md R243-R248). Its outputs stand before a row runs
(`mbPorts`, R241, R242). -/

namespace Sys2Proof.Machine

/-- "Exceptions: MF8 if a previous offer was retracted" (R243, R245): raised, else go on. -/
def State.keepsWord (s t : State) : Result := unlessFault s.mf8Mb .offerRetracted t

/-- `load()` (R253): `shreg <- p_data; lat_first <- p_first; lat_last <- p_last; cnt <- W − 1;
mb_state <- TRANSMIT`. -/
def State.loadWord (s : State) : State :=
  s.schedMb fun m =>
    { m with shreg := s.word, latFirst := s.inp.pFirst, latLast := s.inp.pLast, cnt := s.cfg.wordBytes - 1,
             mbState := .transmit }

/-- MB_IDLE_WAIT (R243): no change. -/
def execMbIdleWait (s : State) : Result := s.keepsWord s

/-- MB_LOAD (R244): latch a word in IDLE. -/
def execMbLoad (s : State) : Result := .next s.loadWord

/-- MB_HOLD (R245): no change; the same byte stays offered. -/
def execMbHold (s : State) : Result := s.keepsWord s

/-- MB_SHIFT (R246): `shreg <- shreg >> 8`; `cnt <- cnt − 1`. -/
def execMbShift (s : State) : Result :=
  .next (s.schedMb fun m => { m with shreg := shiftByte s.regs.mb.shreg, cnt := s.regs.mb.cnt - 1 })

/-- MB_RELOAD (R247): as MB_LOAD, staying in `TRANSMIT`. -/
def execMbReload (s : State) : Result := .next s.loadWord

/-- MB_FINISH (R248): `mb_state <- IDLE`. -/
def execMbFinish (s : State) : Result := .next (s.schedMb fun m => { m with mbState := .idle })

end Sys2Proof.Machine
end

