-- ==== Sys2Proof/Machine/Dispatch.lean ====
section
/-! DEFINITION. One arm per row of spec/opcode_table.json: what the row does in a tick in which it fires. -/

namespace Sys2Proof.Machine

def exec (i : Instr) (s : State) : Host.Outcome State Fault Refusal :=
  match i with
  | .tfWrite => Sys2Proof.Machine.execTfWrite s
  | .tfWriteFull => Sys2Proof.Machine.execTfWriteFull s
  | .tfWriteCommit => Sys2Proof.Machine.execTfWriteCommit s
  | .tfWriteDiscard => Sys2Proof.Machine.execTfWriteDiscard s
  | .tfRead => Sys2Proof.Machine.execTfRead s
  | .tfReadEmpty => Sys2Proof.Machine.execTfReadEmpty s
  | .tfReadCommit => Sys2Proof.Machine.execTfReadCommit s
  | .tfReadDiscard => Sys2Proof.Machine.execTfReadDiscard s
  | .tfNop => Sys2Proof.Machine.execTfNop s
  | .illegalTfMf5 => Sys2Proof.Machine.execIllegalTfMf5 s
  | .illegalTfMf6 => Sys2Proof.Machine.execIllegalTfMf6 s
  | .bdIdle => Sys2Proof.Machine.execBdIdle s
  | .bdCapture => Sys2Proof.Machine.execBdCapture s
  | .bdRelay => Sys2Proof.Machine.execBdRelay s
  | .bdEndComplete => Sys2Proof.Machine.execBdEndComplete s
  | .bdEndCompleteEmpty => Sys2Proof.Machine.execBdEndCompleteEmpty s
  | .bdEndInvalid => Sys2Proof.Machine.execBdEndInvalid s
  | .bdEndInvalidEmpty => Sys2Proof.Machine.execBdEndInvalidEmpty s
  | .illegalBdMf1CompleteInvalid => Sys2Proof.Machine.execIllegalBdMf1CompleteInvalid s
  | .illegalBdMf2NextComplete => Sys2Proof.Machine.execIllegalBdMf2NextComplete s
  | .illegalBdMf2NextInvalid => Sys2Proof.Machine.execIllegalBdMf2NextInvalid s
  | .outDataAccept => Sys2Proof.Machine.execOutDataAccept s
  | .outDataSkip => Sys2Proof.Machine.execOutDataSkip s
  | .outDataNak => Sys2Proof.Machine.execOutDataNak s
  | .outPingAck => Sys2Proof.Machine.execOutPingAck s
  | .outPingNakNospace => Sys2Proof.Machine.execOutPingNakNospace s
  | .outPingNakPidmismatch => Sys2Proof.Machine.execOutPingNakPidmismatch s
  | .outDataNotTargeted => Sys2Proof.Machine.execOutDataNotTargeted s
  | .outPingNotTargeted => Sys2Proof.Machine.execOutPingNotTargeted s
  | .outRespIdle => Sys2Proof.Machine.execOutRespIdle s
  | .illegalOutrespMf3 => Sys2Proof.Machine.execIllegalOutrespMf3 s
  | .outRxWrite => Sys2Proof.Machine.execOutRxWrite s
  | .outRxDrop => Sys2Proof.Machine.execOutRxDrop s
  | .outRxCommit => Sys2Proof.Machine.execOutRxCommit s
  | .outRxDiscard => Sys2Proof.Machine.execOutRxDiscard s
  | .outStreamXfer => Sys2Proof.Machine.execOutStreamXfer s
  | .outStreamWait => Sys2Proof.Machine.execOutStreamWait s
  | .outStreamEmpty => Sys2Proof.Machine.execOutStreamEmpty s
  | .inFillIdle => Sys2Proof.Machine.execInFillIdle s
  | .inFillByte => Sys2Proof.Machine.execInFillByte s
  | .inCloseShort => Sys2Proof.Machine.execInCloseShort s
  | .inCloseFull => Sys2Proof.Machine.execInCloseFull s
  | .inCloseFullLast => Sys2Proof.Machine.execInCloseFullLast s
  | .inTokIdle => Sys2Proof.Machine.execInTokIdle s
  | .inReqNotTargeted => Sys2Proof.Machine.execInReqNotTargeted s
  | .inSendData => Sys2Proof.Machine.execInSendData s
  | .inSendZlp => Sys2Proof.Machine.execInSendZlp s
  | .inNak => Sys2Proof.Machine.execInNak s
  | .illegalIntokMf9 => Sys2Proof.Machine.execIllegalIntokMf9 s
  | .inTxIdle => Sys2Proof.Machine.execInTxIdle s
  | .inTxWait => Sys2Proof.Machine.execInTxWait s
  | .inTxByte => Sys2Proof.Machine.execInTxByte s
  | .inTxLast => Sys2Proof.Machine.execInTxLast s
  | .inAckData => Sys2Proof.Machine.execInAckData s
  | .inAckZlp => Sys2Proof.Machine.execInAckZlp s
  | .inAckIgnored => Sys2Proof.Machine.execInAckIgnored s
  | .mbIdleWait => Sys2Proof.Machine.execMbIdleWait s
  | .mbLoad => Sys2Proof.Machine.execMbLoad s
  | .mbHold => Sys2Proof.Machine.execMbHold s
  | .mbShift => Sys2Proof.Machine.execMbShift s
  | .mbReload => Sys2Proof.Machine.execMbReload s
  | .mbFinish => Sys2Proof.Machine.execMbFinish s
  | .reset => Sys2Proof.Machine.execReset s

end Sys2Proof.Machine
end

