-- ==== Sys2Proof/Machine/Tick.lean ====
section
/-! DEFINITION. One tick of the machine (00_scope.md R18-R20): the inputs are read, the outputs presented, the fault
conditions checked, the rows of each event vector run, and every scheduled register takes its value at the tick
boundary; for each of the two instances apart (R49, R278), and the two answers joined. Also the placing of one event so that the next tick assembles it (log 11). -/

namespace Sys2Proof.Machine

/-- The start of a tick (R18, points 1 and 2): the ports are read, every register is scheduled to keep its value, the
outputs are presented from the inputs and the pre-state. -/
def State.openTick (s : State) : State :=
  { s with
    inp := s.nextInputs
    script := s.script.tail
    nxt := s.regs
    out := presented s.cfg s.regs s.nextInputs s.draws }

/-- Run rows in order; the first that faults or refuses ends the tick. -/
def execAll : List Instr → State → Result
  | [], s => .next s
  | i :: is, s => andThen (exec i s) (execAll is)

/-- One event vector of the tick: the rows that fire for its value (R80). A value no row matches does nothing (R100). -/
def runVec (v : Vec) (s : State) : Result := execAll (firing v (s.ev v)) s

/-- The event vectors of the tick, one after another. -/
def runVecs : List Vec → State → Result
  | [], s => .next s
  | v :: vs, s => andThen (runVec v s) (runVecs vs)

/-- model-only `prev_offer <- (p_valid ∧ ¬p_ready, p_data, p_first, p_last)` on each stream the IN side consumes
(R44, R225, R253). -/
def State.watchOffers (s : State) : State :=
  let s' := s.schedInep fun n => { n with prevOffer := pendingOffer s.inepIn.valid s.out.inp.pReady s.inepOffer }
  match s.cfg.inSide with
  | .inep => s'
  | .mbin => s'.schedMb fun m => { m with prevOffer := pendingOffer s.inp.pValid s.out.mb.pReady s.mbinOffer }

/-- The tick boundary (R18, point 4): "apply all state mutations atomically at tick boundary". -/
def State.closeTick (s : State) : State := { s with regs := s.nxt, draws := s.draws + 1 }

/-- The tick as the IN instance sees it: `rst` is its own (R82, R293); every other port is shared or its own already. -/
def State.forIn (s : State) : State := { s with inp := { s.inp with rst := s.inp.inRst } }

/-- The OUT instance's step (R18), of a tick that has been opened: RESET overrides every other row (R102); else the first
fault of R272 ends it (R18, point 3); else the rows of its vectors run and the registers change. -/
def State.outTick (s : State) : Result :=
  match firing .rst (s.ev .rst) with
  | [] =>
    match s.outTickFault with
    | some f => raise f
    | none => andThen (runVecs (outVecs s.cfg) s) fun t => .next t.closeTick
  | i :: is => andThen (execAll (i :: is) s) fun t => .next t.closeTick

/-- The IN instance's step (R18), of a tick that has been opened as it sees it. -/
def State.inTick (s : State) : Result :=
  match firing .rst (s.ev .rst) with
  | [] =>
    match s.inTickFault with
    | some f => raise f
    | none => andThen (runVecs (inVecs s.cfg) s) fun t => .next t.watchOffers.closeTick
  | i :: is => andThen (execAll (i :: is) s) fun t => .next t.closeTick

/-- The OUT instance steps: it is built (R296) and has no fault recorded (R271). -/
def State.outRuns (s : State) : Bool := s.cfg.outBuilt && s.outFault.isNone

/-- The IN instance steps. -/
def State.inRuns (s : State) : Bool := s.cfg.inBuilt && s.inFault.isNone

/-- What the OUT instance answers in the next tick; none where it does not step. -/
def State.outPart (s : State) : Option Result := if s.outRuns then some s.openTick.outTick else none

/-- What the IN instance answers in the next tick; none where it does not step. -/
def State.inPart (s : State) : Option Result := if s.inRuns then some s.openTick.forIn.inTick else none

/-- An answer that is a next state. -/
def goesOn (r : Option Result) : Bool :=
  match r with
  | some (.next _) => true
  | _ => false

/-- The state with what the OUT instance answered: its next registers and outputs, or its fault recorded and nothing else
(R271). -/
def State.adoptOut (r : Option Result) (s : State) : State :=
  match r with
  | some (.next a) => s.takeOut a
  | some (.fault f) => s.recordOut f
  | _ => s

/-- The state with what the IN instance answered. -/
def State.adoptIn (r : Option Result) (s : State) : State :=
  match r with
  | some (.next a) => s.takeIn a
  | some (.fault f) => s.recordIn f
  | _ => s

/-- The tick's inputs have been read, and neither instance has changed yet. -/
def State.ticked (s : State) : State :=
  { s with inp := s.nextInputs, script := s.script.tail, nxt := s.regs, draws := s.draws + 1 }

/-- The answers of the two instances as the machine's one answer (log 8). Instances share no state (R49, R278): while one
of them goes on there is a next state, in which a faulting one has its code recorded and its registers kept (R271).
Where none goes on, the machine's step "returns `Fault(MFn)`" (R104), of two faults the first in the order of R272; where
none steps at all, "every later step leaves the state unchanged" (R271). -/
def State.join (s : State) (o i : Option Result) : Result :=
  if goesOn o || goesOn i then .next ((s.ticked.adoptOut o).adoptIn i)
  else
    match o, i with
    | some (.fault f), some (.fault g) => raise (firstFault f g)
    | some r, _ => r
    | none, some r => r
    | none, none => .next s

/-- One step of the machine: where no instance is built there is none (R266, R296); else one tick of each instance that
steps. -/
def State.advance (s : State) : Result :=
  if s.cfg.legal then s.join s.outPart s.inPart else .refused .misconfigured

/-! ## Placing an event (log 11) -/

/-- Bit `k` of an event value. -/
def evBit (e : EvWord) (k : Nat) : Bool := e.getLsbD k

/-- A line with every strobe 0 and every level written 0: no token, nothing offered, nobody ready. -/
def Line.quiet : Line :=
  { tokEp := some 0#4, tokOut := some false, tokIn := some false, rxPidToggle := some false, sReady := some false,
    txReady := some false, pValid := some false, pData := some 0, pFirst := some false, pLast := some false }

/-- Make the next tick read line `l`, in place of the line it would have read, with no fault recorded. -/
def State.withLine (l : Line) (s : State) : State :=
  { s with script := l :: s.script.tail, outFault := none, inFault := none }

/-- The state with its registers replaced, as a tick boundary leaves them. -/
def State.withRegs (r : Regs) (s : State) : State := { s with regs := r, nxt := r }

/-- TFIFO registers that show the given `full` and `empty`. -/
def Tfifo.showing (depth : Nat) (full empty : Bool) (t : Tfifo) : Tfifo :=
  { t with
    nRc := 0
    nC := if empty then 0 else if full then depth else 1
    nS := if empty && full then depth else 0 }

/-- The state in which the next tick assembles value `e` on vector `v`: the ports, the registers, and the one instance
that has the vector (both for `EV_RST`). -/
def placeEvent (v : Vec) (e : EvWord) (s : State) : State :=
  let r := s.regs
  let q := Line.quiet
  match v with
  | .tf =>
    { s with cfg := { s.cfg with hasOut := true, hasIn := false, outSide := .tfifoAlone } }
      |>.withRegs { r with tf := r.tf.showing s.cfg.bufDepth (evBit e 1) (evBit e 5) }
      |>.withLine { q with we := evBit e 0, wc := evBit e 2, wdis := evBit e 3, re := evBit e 4, rc := evBit e 6,
                           rdis := evBit e 7 }
  | .bd =>
    { s with cfg := { s.cfg with hasOut := true, hasIn := false, outSide := .outep } }
      |>.withRegs { r with bd := { r.bd with holdValid := evBit e 3 } }
      |>.withLine { q with rxNext := evBit e 0, rxComplete := evBit e 1, rxInvalid := evBit e 2 }
  | .outResp =>
    { s with cfg := { s.cfg with hasOut := true, hasIn := false, outSide := .outep } }
      |>.withRegs { r with tf := { r.tf with nRc := 0, nC := if evBit e 3 then 0 else s.cfg.bufDepth, nS := 0 },
                           bd := { r.bd with holdValid := false } }
      |>.withLine { q with dataReq := evBit e 0, pingReq := evBit e 1, rxComplete := evBit e 0,
                           tokEp := some (BitVec.ofNat 4 s.cfg.outEp), tokOut := some (evBit e 2),
                           rxPidToggle := some (r.expectedDataToggle == evBit e 4) }
  | .outRx =>
    { s with cfg := { s.cfg with hasOut := true, hasIn := false, outSide := .outep } }
      |>.withRegs { r with tf := { r.tf with nRc := 0, nC := 0, nS := 0 },
                           bd := { r.bd with holdValid := evBit e 0 } }
      |>.withLine { q with rxNext := evBit e 0 && !evBit e 2 && !evBit e 3, rxComplete := evBit e 2,
                           rxInvalid := evBit e 3, tokEp := some (BitVec.ofNat 4 s.cfg.outEp),
                           tokOut := some (evBit e 1), rxPidToggle := some r.expectedDataToggle }
  | .outStr =>
    { s with cfg := { s.cfg with hasOut := true, hasIn := false, outSide := .outep } }
      |>.withRegs { r with tf := { r.tf with nRc := 0, nC := if evBit e 0 then 1 else 0, nS := 0 } }
      |>.withLine { q with sReady := some (evBit e 1) }
  | .inFill =>
    { s with cfg := { s.cfg with hasOut := false, hasIn := true, inSide := .inep } }
      |>.withRegs { r with inep := { r.inep with staged := false, zlpPending := false, txActive := false,
                                                 fillLen := if evBit e 2 then s.cfg.inMps - 1 else 0,
                                                 prevOffer := none } }
      |>.withLine { q with pValid := some (evBit e 0), pLast := some (evBit e 1) }
  | .inTok =>
    { s with cfg := { s.cfg with hasOut := false, hasIn := true, inSide := .inep } }
      |>.withRegs { r with inep := { r.inep with staged := evBit e 2, zlpPending := evBit e 3, txActive := evBit e 4,
                                                 fillLen := if evBit e 2 then 1 else 0, txIdx := 0,
                                                 prevOffer := none } }
      |>.withLine { q with inReq := evBit e 0, tokEp := some (BitVec.ofNat 4 s.cfg.inEp), tokIn := some (evBit e 1) }
  | .inTx =>
    { s with cfg := { s.cfg with hasOut := false, hasIn := true, inSide := .inep } }
      |>.withRegs { r with inep := { r.inep with staged := evBit e 0, txActive := evBit e 0, awaitingAck := false,
                                                 fillLen := if evBit e 2 then 1 else 2, txIdx := 0,
                                                 prevOffer := none } }
      |>.withLine { q with txReady := some (evBit e 1) }
  | .inAck =>
    { s with cfg := { s.cfg with hasOut := false, hasIn := true, inSide := .inep } }
      |>.withRegs { r with inep := { r.inep with staged := evBit e 2, fillLen := if evBit e 2 then 1 else 0,
                                                 zlpPending := !evBit e 2, txActive := false,
                                                 awaitingAck := evBit e 1, prevOffer := none } }
      |>.withLine { q with hsInAck := evBit e 0, tokEp := some (BitVec.ofNat 4 s.cfg.inEp), tokIn := some (evBit e 1) }
  | .mb =>
    { s with cfg := { s.cfg with hasOut := false, hasIn := true, inSide := .mbin } }
      |>.withRegs { r with inep := { r.inep with staged := !evBit e 2, zlpPending := false, txActive := false,
                                                 fillLen := if evBit e 2 then 0 else 1, prevOffer := none },
                           mb := { r.mb with mbState := if evBit e 0 then .transmit else .idle,
                                             cnt := if evBit e 3 then 0 else 1, prevOffer := none } }
      |>.withLine { q with pValid := some (evBit e 1) }
  | .rst => s.withLine { q with rst := evBit e 0, inRst := evBit e 0 }

/-- Place the row that a word of the opcode table decodes to, with the word as its vector's value, so that the very
next step runs it (log 10, log 11). A word that decodes to no row changes nothing. -/
def placeTableWord (nbits w : Nat) (s : State) : State :=
  match decodeTableWord nbits w with
  | some i => placeEvent i.vec (BitVec.ofNat 8 w) s
  | none => s

end Sys2Proof.Machine
end

