-- ==== Sys2Proof/Machine/Step.lean ====
section
/-! DEFINITION. One step, in its three outcomes, and the host's placing of one instruction word. -/

namespace Sys2Proof.Machine

/-- One step: one tick of the machine (00_scope.md R18). -/
def step (s : State) : Host.Outcome State Fault Refusal := s.advance

/-- The state whose very next step runs the row that the word decodes to (log 11). -/
def State.withFetchWord (s : State) (nbits w : Nat) : State := placeTableWord nbits w s

end Sys2Proof.Machine
end

