-- ==== Sys2Proof/Machine/Norm.lean ====
section
/-! DEFINITION. The spec's normative one-tick functions, written out beside the rows: the TFIFO (40_skid_buffer.md
R125), the BD (41_boundary_detector.md R141-R148 as one function), OUTEP (42_out_endpoint.md R197), INEP
(43_in_endpoint.md R225) and MBIN (44_word_adapter.md R253). Each is "normative where a combination is in doubt". They
give the next registers of a tick that takes no fault and is no reset tick. No step calls them: the statements say
that the rows of a tick together do what they say. -/

namespace Sys2Proof.Machine

/-! ## TFIFO (R125) -/

/-- The TFIFO's inputs in a tick (R84). -/
structure TfIn where
  we   : Bool
  wd   : Entry
  wc   : Bool
  wdis : Bool
  re   : Bool
  rc   : Bool
  rdis : Bool
  deriving DecidableEq, Repr

/-- R125: the next-state function of the TFIFO. -/
def tfTick (depth : Nat) (t : Tfifo) (i : TfIn) : Tfifo :=
  let w := i.we && !t.full depth
  let r := i.re && !t.empty
  let mem := if w then t.mem.write (t.wp depth) i.wd else t.mem
  let ns1 := t.nS + (if w then 1 else 0)
  let nc1 := if i.wc then t.nC + ns1 else t.nC
  let nS := if i.wc then 0 else if i.wdis then 0 else ns1
  let nrc1 := t.nRc + (if r then 1 else 0)
  if i.rc then { mem := mem, crp := (t.crp + nrc1) % depth, nRc := 0, nC := nc1 - nrc1, nS := nS }
  else if i.rdis then { mem := mem, crp := t.crp, nRc := 0, nC := nc1, nS := nS }
  else { mem := mem, crp := t.crp, nRc := nrc1, nC := nc1, nS := nS }

/-! ## BD (R141-R148) -/

/-- The BD's outputs; `free` is `bd_data` when nothing is emitted (U7). -/
def bdOut (b : Bd) (i : Inputs) (free : Byte) : BdPorts :=
  let emits := b.holdValid && (i.rxNext || i.rxComplete || i.rxInvalid)
  { bdNext := emits
    bdData := if emits then b.holdData else free
    bdFirst := emits && b.isFirstByte
    bdLast := emits && (i.rxComplete || i.rxInvalid)
    bdComplete := i.rxComplete
    bdInvalid := i.rxInvalid }

/-- The BD's next state. -/
def bdTick (b : Bd) (i : Inputs) : Bd :=
  if i.rxNext then
    { holdValid := true, holdData := i.rxData, isFirstByte := b.isFirstByte && !b.holdValid }
  else if i.rxComplete || i.rxInvalid then { b with holdValid := false, isFirstByte := true }
  else b

/-! ## OUTEP (R197) -/

/-- What a tick of OUTEP gives: its next registers and its handshake. -/
structure OutepResult where
  toggle : Bool
  bd     : Bd
  tf     : Tfifo
  hsAck  : Bool
  hsNak  : Bool
  deriving DecidableEq, Repr

/-- R197: the next-state and output function of OUTEP; `free` as in `bdOut`. -/
def outepTick (c : Cfg) (r : Regs) (i : Inputs) (free : Byte) : OutepResult :=
  let targeting := i.tokEp.toNat == c.outEp && i.tokOut
  let b := bdOut r.bd i free
  let pidOk := i.rxPidToggle == r.expectedDataToggle
  let space := decide (c.outMps ≤ c.bufDepth - r.tf.nC)
  let okay := targeting && space && pidOk
  let skip := targeting && !pidOk
  let dreq := i.dataReq && targeting
  let preq := i.pingReq && targeting
  { hsAck := (dreq && okay) || (preq && okay) || (dreq && skip)
    hsNak := (dreq && !okay && !skip) || (preq && !okay)
    tf := tfTick c.bufDepth r.tf
      { we := okay && b.bdNext, wd := packEntry b.bdFirst b.bdLast b.bdData, wc := b.bdComplete, wdis := b.bdInvalid,
        re := !r.tf.empty && i.sReady, rc := true, rdis := false }
    bd := bdTick r.bd i
    toggle := if dreq && okay then !r.expectedDataToggle else r.expectedDataToggle }

/-! ## INEP (R225) -/

/-- R225, fill side. -/
def inepFill (c : Cfg) (n : Inep) (p : ByteStream) : Inep :=
  if p.valid && n.ready then
    let n' := { n with pbuf := Cells.write n.pbuf n.fillLen p.data }
    if n.fillLen + 1 == c.inMps then { n' with fillLen := c.inMps, staged := true, zlpPending := p.last }
    else if p.last then { n' with fillLen := n.fillLen + 1, staged := true }
    else { n' with fillLen := n.fillLen + 1 }
  else n

/-- R225, token side: `n` the pre-state, `m` what is scheduled so far. -/
def inepToken (n : Inep) (req tgt : Bool) (m : Inep) : Inep :=
  if req && tgt && n.staged then { m with txActive := true, txIdx := 0, awaitingAck := false }
  else if req && tgt && n.zlpPending then { m with awaitingAck := true }
  else m

/-- R225, transmit side. -/
def inepTransmit (n : Inep) (txReady : Bool) (m : Inep) : Inep :=
  if n.txActive && txReady then
    if n.atLast then { m with txActive := false, txIdx := 0, awaitingAck := true }
    else { m with txIdx := n.txIdx + 1 }
  else m

/-- R225, ACK side. -/
def inepAck (n : Inep) (ack tgt : Bool) (m : Inep) : Inep :=
  if ack && tgt && n.awaitingAck then
    if n.staged then { m with inToggle := !n.inToggle, awaitingAck := false, staged := false, fillLen := 0 }
    else { m with inToggle := !n.inToggle, awaitingAck := false, zlpPending := false }
  else m

/-- R225: the next-state function of INEP on its producer stream `p`. -/
def inepTick (c : Cfg) (n : Inep) (i : Inputs) (p : ByteStream) : Inep :=
  let tgt := i.tokIn && i.tokEp.toNat == c.inEp
  let m := inepAck n i.hsInAck tgt (inepTransmit n i.txReady (inepToken n i.inReq tgt (inepFill c n p)))
  { m with prevOffer := pendingOffer p.valid n.ready ⟨p.data.toNat, p.first, p.last⟩ }

/-! ## MBIN (R253) -/

/-- R253: the next-state function of MBIN; `ready` is `i_ready`, the inner INEP's `p_ready` from its pre-state. -/
def mbinTick (c : Cfg) (m : Mbin) (i : Inputs) (ready : Bool) : Mbin :=
  let word := i.pData % 2 ^ (8 * c.wordBytes)
  let loaded : Mbin :=
    { m with shreg := word, latFirst := i.pFirst, latLast := i.pLast, cnt := c.wordBytes - 1, mbState := .transmit }
  let m' : Mbin :=
    match m.mbState with
    | .idle => if i.pValid then loaded else m
    | .transmit =>
      if ready then
        if m.cnt ≠ 0 then { m with shreg := m.shreg / 256, cnt := m.cnt - 1 }
        else if i.pValid then loaded
        else { m with mbState := .idle }
      else m
  let pReady := match m.mbState with | .idle => true | .transmit => ready && m.cnt == 0
  { m' with prevOffer := pendingOffer i.pValid pReady ⟨word, i.pFirst, i.pLast⟩ }

end Sys2Proof.Machine
end

