-- ==== Sys2Proof/Machine/Duties.lean ====
section
/-! DEFINITION. The duties of the agents around the core (70_reset_and_hazards.md R297) as a monitor of the ports: "the
model never makes a run that breaks a duty it cannot detect". No step reads it: a tick that breaks a duty runs as the
hazards say (R298-R304); `State.dutiful` (Safety.lean) says which runs R297 admits (log 18). -/

namespace Sys2Proof.Machine

/-- What the monitor remembers of the transaction layer and the host. -/
structure Duties where
  /-- A byte of an OUT data packet has come, and its verdict has not. -/
  inPacket : Bool
  /-- The DATA PID presented with the packet's first byte. -/
  pid      : Bool
  /-- How many bytes of the packet have come. -/
  bytes    : Nat
  /-- The last DATA packet to this OUT endpoint: its PID, and whether it was ACKed. -/
  answered : Option (Bool × Bool)
  /-- An IN request has come under the current token, and no host ACK after it. -/
  asked    : Bool
  /-- What the producer has offered and the core has not taken, over reset ticks too: "the producer's and consumer's
  offers carry over to the next tick" (R292), where `prev_offer` is cleared (R44). -/
  offered  : Option Offer
  deriving DecidableEq, Repr

/-- Between transactions, nothing answered yet. -/
def Duties.start : Duties := { inPacket := false, pid := false, bytes := 0, answered := none, asked := false,
                                 offered := none }

/-- The token levels of two ticks are the same. -/
def sameToken (i j : Inputs) : Bool := i.tokEp == j.tokEp && i.tokOut == j.tokOut && i.tokIn == j.tokIn

/-- A data packet of the host arrives in the tick that opened as `u`: one of its bytes, a pause in it, or its verdict. -/
def Duties.receiving (d : Duties) (u : State) : Bool :=
  d.inPacket || u.inp.rxNext || u.inp.rxComplete || u.inp.rxInvalid

/-- A data packet begins in the tick that opened as `u`: its first byte, or the verdict of a zero-length one. -/
def Duties.begins (d : Duties) (u : State) : Bool := !d.inPacket && d.receiving u

/-- This IN instance's transaction is under way: it transmits, or its packet or ZLP awaits the host ACK. -/
def inTransaction (u : State) : Bool := u.inRuns && (u.regs.inep.txActive || u.regs.inep.awaitingAck)

/-- Duty 1: never both directions; a packet of the host is under no IN token; the token stays while a packet arrives,
through its verdict, and "through the last transmitted byte and the host ACK" of an IN transaction of this instance. A
host that gets no ACK through "issues another IN token for the same endpoint" (R219), which leaves the levels as they
are. -/
def Duties.tokenStable (d : Duties) (prev : Inputs) (u : State) : Bool :=
  !(u.inp.tokOut && u.inp.tokIn) && !(d.receiving u && u.inp.tokIn) &&
    (sameToken u.inp prev || (!d.inPacket && !inTransaction u))

/-- Duty 2: bytes, then exactly one verdict, in a tick of its own. -/
def Duties.verdictApart (u : State) : Bool :=
  !(u.inp.rxComplete && u.inp.rxInvalid) && !(u.inp.rxNext && (u.inp.rxComplete || u.inp.rxInvalid))

/-- Duty 3: the packet's PID stays from its first byte through its verdict. -/
def Duties.pidStable (d : Duties) (u : State) : Bool := !d.inPacket || u.inp.rxPidToggle == d.pid

/-- Duty 4: `data_req` with `rx_complete`, after every OUT token's valid packet, and never with `ping_req`. -/
def Duties.responseInTime (u : State) : Bool :=
  (!(u.inp.rxComplete && u.inp.tokOut) || u.inp.dataReq) && (!u.inp.dataReq || u.inp.rxComplete) &&
    !(u.inp.dataReq && u.inp.pingReq)

/-- Duty 5: `ping_req` under its PING token, in no tick of a packet: a PING has none. -/
def Duties.pingUnderToken (d : Duties) (u : State) : Bool := !u.inp.pingReq || (u.inp.tokOut && !d.receiving u)

/-- Duty 7: `in_req` under its IN token, never while this instance transmits, never with `hs_in_ack`. -/
def Duties.requestApart (u : State) : Bool :=
  !u.inp.inReq || (u.inp.tokIn && !u.inp.hsInAck && !(u.targetingIn && u.regs.inep.txActive))

/-- Duty 8: `hs_in_ack` "with the token still naming" the endpoint whose packet it acknowledges, once for a packet: the
token is the one under which that packet was asked for, and an ACK to this endpoint is one it awaits. -/
def Duties.ackUnderToken (d : Duties) (prev : Inputs) (u : State) : Bool :=
  !u.inp.hsInAck ||
    (sameToken u.inp prev && u.inp.tokIn && d.asked && (!u.targetingIn || u.regs.inep.awaitingAck))

/-- Duty 9: one packet in flight: a packet to this endpoint presents another PID than the last one only if that one was
ACKed. -/
def Duties.oneInFlight (d : Duties) (u : State) : Bool :=
  !(d.begins u && u.targetingEndpoint) ||
    match d.answered with
    | none => true
    | some (pid, acked) => u.inp.rxPidToggle == pid || acked

/-- Duty 10: a packet to this endpoint has at most `MPS` bytes. -/
def Duties.lengthOk (d : Duties) (u : State) : Bool :=
  !(u.inp.rxNext && u.targetingEndpoint) || decide ((if d.inPacket then d.bytes else 0) + 1 ≤ u.cfg.outMps)

/-- What the producer offers to the IN instance (R82, R83). -/
def producerOffer (u : State) : Offer :=
  match u.cfg.inSide with
  | .inep => u.inepOffer
  | .mbin => u.mbinOffer

/-- `p_ready` of the IN instance, which a reset tick forces to 0 (R292). -/
def producerReady (u : State) : Bool :=
  !u.inp.inRst &&
    match u.cfg.inSide with
    | .inep => u.out.inp.pReady
    | .mbin => u.out.mb.pReady

/-- MF8 on the producer's own stream. An MBIN's offer to its inner INEP is no agent's duty. -/
def producerMf8 (u : State) : Bool :=
  match u.cfg.inSide with
  | .inep => u.mf8In
  | .mbin => u.mf8Mb

/-- Duty 12: the producer neither retracts nor changes an offer "before it is taken": neither the one that `prev_offer`
records nor one that the monitor remembers over a reset tick. -/
def Duties.offerStands (d : Duties) (u : State) : Bool :=
  !producerMf8 u && !retractedOrChanged d.offered u.inp.pValid (producerOffer u)

/-- The tick that opened as `u`, after a tick whose ports were `prev`, keeps every duty of R297 that is about the ports:
1 to 5, 7 to 10 and 12. Duty 11 needs no test, a strobe being one event per tick (R302); duty 6 and the rest of 7 are
about the wire; 13 asks nothing; 14 is the configuration and the use of `rst`. -/
def Duties.allow (d : Duties) (prev : Inputs) (u : State) : Bool :=
  d.tokenStable prev u && Duties.verdictApart u && d.pidStable u && Duties.responseInTime u && d.pingUnderToken u &&
    (!u.inRuns || (Duties.requestApart u && d.ackUnderToken prev u && d.offerStands u)) &&
    (!u.outRuns || (d.oneInFlight u && d.lengthOk u))

/-- What the monitor remembers after the tick that opened as `u`, after a tick whose ports were `prev`. A packet that
fails its check is one not ACKed. What a reset tick ends for the agents, DESIGN CHOICE (log 26): the OUT instance's
forgets the last packet answered (R293: the host returns to DATA0), and a packet the transaction layer is delivering
goes on through it, held to its token, PID and length until its verdict. -/
def Duties.next (d : Duties) (prev : Inputs) (u : State) : Duties where
  inPacket := if u.inp.rxNext then true else d.inPacket && !(u.inp.rxComplete || u.inp.rxInvalid)
  pid := if d.inPacket then d.pid else u.inp.rxPidToggle
  bytes := if u.inp.rxNext then (if d.inPacket then d.bytes else 0) + 1 else d.bytes
  answered :=
    if u.inp.rst then none
    else if u.targetingEndpoint && (u.inp.rxComplete || u.inp.rxInvalid) then some (u.inp.rxPidToggle, u.dataRespReq && u.hsAckEq)
    else d.answered
  asked := u.inp.inReq || (d.asked && sameToken u.inp prev && !u.inp.hsInAck)
  offered := pendingOffer u.inp.pValid (producerReady u) (producerOffer u)

end Sys2Proof.Machine
end

