-- ==== Sys2Proof/Machine/Script.lean ====
section
/-! DEFINITION. The event script's macros (30_encoding.md R108) and the token, PID and PID-byte encodings of the
transaction layer (R87-R90; R89 and R90 are general knowledge in the spec: log 20). No step reads this file: it says
what a transaction layer puts on the ports. -/

namespace Sys2Proof.Machine

/-! ## PIDs (R88-R90) -/

/-- The USB 2.0 PIDs of R89. -/
inductive Pid where
  | out | inTok | sof | setup | data0 | data1 | data2 | mdata | ack | nak | stall | nyet | preErr | split | ping
  | reserved
  deriving DecidableEq, Repr

/-- `PID[3:0]` (R89). -/
def Pid.code : Pid → BitVec 4
  | .out => 0b0001#4
  | .inTok => 0b1001#4
  | .sof => 0b0101#4
  | .setup => 0b1101#4
  | .data0 => 0b0011#4
  | .data1 => 0b1011#4
  | .data2 => 0b0111#4
  | .mdata => 0b1111#4
  | .ack => 0b0010#4
  | .nak => 0b1010#4
  | .stall => 0b1110#4
  | .nyet => 0b0110#4
  | .preErr => 0b1100#4
  | .split => 0b1000#4
  | .ping => 0b0100#4
  | .reserved => 0b0000#4

/-- The PID byte on the wire is `{¬PID[3:0], PID[3:0]}` (R90). -/
def Pid.byte (p : Pid) : Byte := ~~~p.code ++ p.code

/-- The toggle bit of a DATA0 or DATA1 PID: "this bit is PID bit 3" (R88). -/
def Pid.toggle (p : Pid) : Bool := p.code.getLsbD 3

/-! ## Tokens (R87) -/

/-- A token the transaction layer has received. -/
inductive Token where
  | out (ep : BitVec 4)
  | ping (ep : BitVec 4)
  | inTok (ep : BitVec 4)
  | setup (ep : BitVec 4)
  | sof
  deriving DecidableEq, Repr

/-- The levels a token sets, written on a line (R87); they hold until the next token. -/
def Token.levels (t : Token) (l : Line) : Line :=
  match t with
  | .out e => { l with tokEp := some e, tokOut := some true, tokIn := some false }
  | .ping e => { l with tokEp := some e, tokOut := some true, tokIn := some false }
  | .inTok e => { l with tokEp := some e, tokOut := some false, tokIn := some true }
  | .setup e => { l with tokEp := some e, tokOut := some false, tokIn := some false }
  | .sof => l

/-! ## Script macros (R108) -/

/-- The script macros, and a plain tick line. -/
inductive Macro where
  | tick (l : Line)
  | tokenOut (ep : BitVec 4)
  | tokenIn (ep : BitVec 4)
  /-- `RXPKT p [b0 … bk−1] OK`. -/
  | rxOk (pid : Bool) (bytes : List Byte)
  /-- `RXPKT p [b0 … bk−1] BAD`. -/
  | rxBad (pid : Bool) (bytes : List Byte)
  | ping (ep : BitVec 4)
  | inReq
  | hack
  | idle (n : Nat)
  deriving DecidableEq, Repr

/-- The byte ticks of a packet: `rx=b_j`, one line a byte. -/
def byteLines (bytes : List Byte) : List Line := bytes.map fun b => { rxNext := true, rxData := b }

/-- The byte ticks of a packet, its PID level set in the first of them, then `fin`, its verdict tick. -/
def packetLines (pid : Bool) (bytes : List Byte) (fin : Line) : List Line :=
  match byteLines bytes with
  | [] => [fin]
  | l :: ls => { l with rxPidToggle := some pid } :: ls ++ [fin]

/-- The verdict tick of a packet with a valid check, and its DATA request (R108, duty 4 of R297). -/
def Line.verdictOk : Line := { rxComplete := true, dataReq := true }

/-- The verdict tick of a packet with a failed check. -/
def Line.verdictBad : Line := { rxInvalid := true }

/-- The lines of one macro, but for its token levels. `RXPKT p [] OK` is one tick that sets the level too (R108); for
`RXPKT p [] BAD` the table leaves its last tick alone. -/
def Macro.lines : Macro → List Line
  | .tick l => [l]
  | .tokenOut _ => []
  | .tokenIn _ => []
  | .rxOk p [] => [{ Line.verdictOk with rxPidToggle := some p }]
  | .rxOk p (b :: bs) => packetLines p (b :: bs) Line.verdictOk
  | .rxBad p bs => packetLines p bs Line.verdictBad
  | .ping _ => [{ pingReq := true }]
  | .inReq => [{ inReq := true }]
  | .hack => [{ hsInAck := true }]
  | .idle n => List.replicate n {}

/-- The token a macro sets, if any. -/
def Macro.token : Macro → Option Token
  | .tokenOut e => some (.out e)
  | .tokenIn e => some (.inTok e)
  | .ping e => some (.ping e)
  | .tick _ => none
  | .rxOk _ _ => none
  | .rxBad _ _ => none
  | .inReq => none
  | .hack => none
  | .idle _ => none

/-- A token's levels on the first of some lines; "from the next tick on (no tick of its own)". A line that writes the
token levels itself is overwritten: R108 does not say which stands, DESIGN CHOICE (log 24). -/
def putToken (t : Option Token) : List Line → List Line
  | [] => []
  | l :: ls => (match t with | none => l | some t => t.levels l) :: ls

/-- The lines a script expands to; `pending` is a token whose levels the next tick sets, and is dropped where no tick
follows, DESIGN CHOICE (log 24). -/
def expandFrom (pending : Option Token) : List Macro → List Line
  | [] => []
  | m :: ms =>
    let t := match m.token with | none => pending | some t => some t
    match m.lines with
    | [] => expandFrom t ms
    | l :: ls => putToken t (l :: ls) ++ expandFrom none ms

/-- The lines of an event script (R107, R108). -/
def expand (ms : List Macro) : List Line := expandFrom none ms

end Sys2Proof.Machine
end

