-- ==== Sys2Proof/Safety.lean ====
section
/-! DEFINITION. What counts as a good state and a safe run, in the terms the statements use: a run with its faults
recorded (60_exceptions.md R271), the end of a run (70_reset_and_hazards.md R310), the invariants of the registers
(10_state.md R36, R39, R42), and the queue a TFIFO stands for (40_skid_buffer.md R110). -/

namespace Sys2Proof.Machine

/-! ## Runs -/

/-- The state one step later, whatever the step answers (R271): the next state; after a fault, the same state with the
code of each faulting instance recorded. Where no instance is built there is no machine (R266): nothing changes. -/
def State.afterStep (s : State) : State :=
  match step s with
  | .next t => t
  | .fault _ => (s.adoptOut s.outPart).adoptIn s.inPart
  | .refused _ => s

/-- The state `k` steps later. -/
def State.after : Nat → State → State
  | 0, s => s
  | k + 1, s => State.after k s.afterStep

/-- How many of the next `k` ticks satisfy `p` on the state as the tick opens. -/
def State.count (p : State → Bool) : Nat → State → Nat
  | 0, _ => 0
  | k + 1, s => (if p s.openTick then 1 else 0) + State.count p k s.afterStep

/-- The tick that opened as `s` accepts an OUT data packet (R25, R170): no reset, and a DATA response is requested while
`okay_to_receive` holds. -/
def State.accepts (s : State) : Bool := !s.inp.rst && s.dataRespReq && s.okayToReceive

/-- The tick that opened as `s` honours a host ACK (R216, R217). -/
def State.honoursAck (s : State) : Bool := !s.inp.inRst && s.inp.hsInAck && s.ackMatch

/-- The OUT instance steps: it is built and no fault of it is recorded. -/
def State.outLive (s : State) : Prop := s.cfg.outBuilt = true ∧ s.outFault = none

/-- The IN instance steps. -/
def State.inLive (s : State) : Prop := s.cfg.inBuilt = true ∧ s.inFault = none

/-- The next `k` ticks of the OUT instance run: no reset tick of it among them, and no fault of it by their end. -/
def State.outClean (k : Nat) (s : State) : Prop :=
  s.outLive ∧ s.count (fun t => t.inp.rst) k = 0 ∧ (State.after k s).outFault = none

/-- The next `k` ticks of the IN instance run. -/
def State.inClean (k : Nat) (s : State) : Prop :=
  s.inLive ∧ s.count (fun t => t.inp.inRst) k = 0 ∧ (State.after k s).inFault = none

/-- The next `k` ticks keep the duties of R297, for a monitor that remembers `d`. -/
def State.dutifulFrom : Nat → Duties → State → Bool
  | 0, _, _ => true
  | k + 1, d, s => d.allow s.inp s.openTick && State.dutifulFrom k (d.next s.inp s.openTick) s.afterStep

/-- The next `k` ticks keep the duties of R297, from between two transactions: the runs that the spec's model makes. -/
def State.dutiful (k : Nat) (s : State) : Prop := State.dutifulFrom k Duties.start s = true

/-- What each of the next `k` ticks shows, one after another: `f` on the state as the tick opens. -/
def State.collect {α : Type} (f : State → List α) : Nat → State → List α
  | 0, _ => []
  | k + 1, s => f s.openTick ++ State.collect f k s.afterStep

/-- At rest (R310). -/
def State.atRest (s : State) : Prop :=
  s.outFault = none ∧ s.inFault = none ∧ s.regs.tf.nS = 0 ∧ s.regs.bd.holdValid = false ∧ s.regs.inep.txActive = false ∧
    s.regs.mb.mbState = .idle

/-- Drained (R310). -/
def State.drained (s : State) : Prop :=
  s.atRest ∧ s.regs.tf.nC = 0 ∧ s.regs.inep.staged = false ∧ s.regs.inep.zlpPending = false ∧
    s.regs.inep.awaitingAck = false

/-! ## Invariants -/

/-- The TFIFO's ranges (R36) and its array's canonical form. -/
structure Tfifo.Inv (depth : Nat) (t : Tfifo) : Prop where
  read_le     : t.nRc ≤ t.nC
  fits        : t.nC + t.nS ≤ depth
  base_lt     : t.crp < depth
  mem_wf      : Memory.wf t.mem = true
  mem_below   : Cells.below depth t.mem = true

/-- The BD's invariant (R39): `hold_valid = 0 ⇒ is_first_byte = 1`. -/
def Bd.Inv (b : Bd) : Prop := b.holdValid = false → b.isFirstByte = true

/-- INEP's invariants (R42), the ranges of R41, the array's canonical form, and what R217 derives. -/
structure Inep.Inv (mps : Nat) (n : Inep) : Prop where
  filling     : n.staged = false → n.fillLen < mps
  staged_len  : n.staged = true → 1 ≤ n.fillLen ∧ n.fillLen ≤ mps
  sending     : n.txActive = true → n.staged = true ∧ n.txIdx < n.fillLen
  sending_ack : n.txActive = true → n.awaitingAck = false
  owed_zlp    : n.zlpPending = true → n.staged = false → n.fillLen = 0
  idx_lt      : n.txIdx < mps
  zlp_sent    : n.awaitingAck = true → n.staged = false → n.zlpPending = true
  pbuf_wf     : Memory.wf n.pbuf = true
  pbuf_below  : Cells.below mps n.pbuf = true

/-- MBIN's ranges (R43). -/
structure Mbin.Inv (wordBytes : Nat) (m : Mbin) : Prop where
  cnt_lt   : m.cnt < wordBytes
  shreg_lt : m.shreg < 2 ^ (8 * wordBytes)

/-- Behind an MBIN, what the inner INEP remembers as a pending offer is what MBIN still offers (R242). -/
def offerHeld (c : Cfg) (r : Regs) : Prop :=
  c.inSide = .mbin → ∀ o, r.inep.prevOffer = some o →
    r.mb.mbState = .transmit ∧ o.data = (lowByte r.mb.shreg).toNat ∧
    o.first = (r.mb.latFirst && r.mb.cnt == c.wordBytes - 1) ∧ o.last = (r.mb.latLast && r.mb.cntZero)

/-- The invariant of the registers: of each instance that is built. -/
structure State.Inv (s : State) : Prop where
  tf    : s.cfg.outBuilt = true → s.regs.tf.Inv s.cfg.bufDepth
  bd    : s.regs.bd.Inv
  inep  : s.cfg.inBuilt = true → s.regs.inep.Inv s.cfg.inMps
  mb    : s.cfg.inBuilt = true → s.cfg.inSide = .mbin → s.regs.mb.Inv s.cfg.wordBytes
  offer : offerHeld s.cfg s.regs

/-- The two states have the same OUT instance: registers, outputs, recorded fault. -/
def State.sameOut (s t : State) : Prop :=
  t.regs.tf = s.regs.tf ∧ t.regs.bd = s.regs.bd ∧ t.regs.expectedDataToggle = s.regs.expectedDataToggle ∧
    t.out.tf = s.out.tf ∧ t.out.bd = s.out.bd ∧ t.out.outp = s.out.outp ∧ t.outFault = s.outFault

/-- The two states have the same IN instance: registers, outputs, recorded fault. -/
def State.sameIn (s t : State) : Prop :=
  t.regs.inep = s.regs.inep ∧ t.regs.mb = s.regs.mb ∧ t.out.inp = s.out.inp ∧ t.out.mb = s.out.mb ∧
    t.inFault = s.inFault

/-- Every TFIFO entry of the committed range and of the run has been written, and every byte of the packet being filled
or staged: "no rule reads an unspecified value before writing it" (D27, U1, U3). -/
structure State.Written (s : State) : Prop where
  mem  : ∀ k, k < s.regs.tf.nC + s.regs.tf.nS →
    (Cells.find? s.regs.tf.mem ((s.regs.tf.crp + k) % s.cfg.bufDepth)).isSome = true
  pbuf : ∀ k, k < s.regs.inep.fillLen → (Cells.find? s.regs.inep.pbuf k).isSome = true

/-! ## What a row leaves alone -/

/-- What no row writes: the configuration, the pre-state, the ports read, the script, the free-value index, the
recorded faults. -/
def State.sameTick (s t : State) : Prop :=
  t.cfg = s.cfg ∧ t.regs = s.regs ∧ t.inp = s.inp ∧ t.script = s.script ∧ t.draws = s.draws ∧
    t.outFault = s.outFault ∧ t.inFault = s.inFault

/-- Of the registers and outputs, at most the TFIFO's registers differ. -/
def State.onlyTf (s t : State) : Prop :=
  s.sameTick t ∧ t.nxt.bd = s.nxt.bd ∧ t.nxt.expectedDataToggle = s.nxt.expectedDataToggle ∧ t.nxt.inep = s.nxt.inep ∧
    t.nxt.mb = s.nxt.mb ∧ t.out = s.out

/-- Of the registers and outputs, at most the BD's registers and its outputs differ. -/
def State.onlyBd (s t : State) : Prop :=
  s.sameTick t ∧ t.nxt.tf = s.nxt.tf ∧ t.nxt.expectedDataToggle = s.nxt.expectedDataToggle ∧ t.nxt.inep = s.nxt.inep ∧
    t.nxt.mb = s.nxt.mb ∧ t.out.tf = s.out.tf ∧ t.out.outp = s.out.outp ∧ t.out.inp = s.out.inp ∧ t.out.mb = s.out.mb

/-- No register differs, and of the outputs at most OUTEP's. -/
def State.onlyHandshake (s t : State) : Prop :=
  s.sameTick t ∧ t.nxt = s.nxt ∧ t.out.tf = s.out.tf ∧ t.out.bd = s.out.bd ∧ t.out.inp = s.out.inp ∧
    t.out.mb = s.out.mb ∧ t.out.outp.sValid = s.out.outp.sValid ∧ t.out.outp.sData = s.out.outp.sData ∧
    t.out.outp.sFirst = s.out.outp.sFirst ∧ t.out.outp.sLast = s.out.outp.sLast

/-- No register differs, and of the outputs at most the TFIFO's ports. -/
def State.onlyTfPorts (s t : State) : Prop :=
  s.sameTick t ∧ t.nxt = s.nxt ∧ t.out.bd = s.out.bd ∧ t.out.outp = s.out.outp ∧ t.out.inp = s.out.inp ∧
    t.out.mb = s.out.mb

/-- Of the registers and outputs, at most INEP's registers and its outputs differ. -/
def State.onlyInep (s t : State) : Prop :=
  s.sameTick t ∧ t.nxt.tf = s.nxt.tf ∧ t.nxt.bd = s.nxt.bd ∧ t.nxt.expectedDataToggle = s.nxt.expectedDataToggle ∧
    t.nxt.mb = s.nxt.mb ∧ t.out.tf = s.out.tf ∧ t.out.bd = s.out.bd ∧ t.out.outp = s.out.outp ∧ t.out.mb = s.out.mb

/-- Of the registers and outputs, at most MBIN's registers differ. -/
def State.onlyMb (s t : State) : Prop :=
  s.sameTick t ∧ t.nxt.tf = s.nxt.tf ∧ t.nxt.bd = s.nxt.bd ∧ t.nxt.expectedDataToggle = s.nxt.expectedDataToggle ∧
    t.nxt.inep = s.nxt.inep ∧ t.out = s.out

/-! ## The queue a TFIFO stands for (R110) -/

/-- `n` entries of the ring from index `a` on. -/
def ringEntries (depth : Nat) (m : Cells Entry) (a n : Nat) : List Entry :=
  (List.range n).map fun k => readMem m ((a + k) % depth)

/-- A transactional queue: the entries read and not yet read-committed, the committed entries not yet read, and the
speculative run; each oldest first. -/
structure Queue where
  held   : List Entry
  unread : List Entry
  run    : List Entry
  deriving DecidableEq, Repr

/-- The queue that the TFIFO's registers stand for (R37). -/
def Tfifo.queue (depth : Nat) (t : Tfifo) : Queue where
  held := ringEntries depth t.mem t.crp t.nRc
  unread := ringEntries depth t.mem (t.crp + t.nRc) (t.nC - t.nRc)
  run := ringEntries depth t.mem (t.crp + t.nC) t.nS

/-- One tick of a transactional queue, as the contract gives it (R110, R118-R123): a same-tick write belongs to the
commit and to the discard, a same-tick read to the read commit and to the unread; what is committed this tick cannot
be read this tick. -/
def Queue.tick (q : Queue) (i : TfIn) : Queue :=
  let run := if i.we then q.run ++ [i.wd] else q.run
  let held := if i.re then q.held ++ q.unread.take 1 else q.held
  let unread := (if i.re then q.unread.drop 1 else q.unread) ++ (if i.wc then run else [])
  { run := if i.wc || i.wdis then [] else run
    held := if i.rc || i.rdis then [] else held
    unread := if i.rc then unread else if i.rdis then held ++ unread else unread }

/-- The queue of a state. -/
def State.queue (s : State) : Queue := s.regs.tf.queue s.cfg.bufDepth

/-- The entry the consumer takes in the tick that opened as `s` (R185), if it takes one. -/
def State.takenByConsumer (s : State) : List Entry :=
  if !s.regs.tf.empty && s.inp.sReady then [readMem s.regs.tf.mem (s.regs.tf.rp s.cfg.bufDepth)] else []

/-- The entry OUTEP writes in the tick that opened as `s` (R144, R145, R147, R180), if it writes one. -/
def State.writtenNow (s : State) : List Entry :=
  if s.okayToReceive && s.bdEmits then
    [packEntry s.regs.bd.isFirstByte (s.inp.rxComplete || s.inp.rxInvalid) s.regs.bd.holdData]
  else []

/-- The entries OUTEP commits in the tick that opened as `s` (R182): on a valid check, the run with this tick's write. -/
def State.committedNow (s : State) : List Entry :=
  if s.inp.rxComplete then s.queue.run ++ s.writtenNow else []

/-! ## The bytes an MBIN still owes (R250, R251) -/

/-- A byte of a stream with its marks. -/
structure Mark where
  data  : Byte
  first : Bool
  last  : Bool
  deriving DecidableEq, Repr

/-- The last `k + 1` bytes of a `W`-byte word held in `shreg`, least significant first, `first` on byte 0 of the word
alone and `last` on its final byte alone (R242, R250). -/
def owedBytes (wordBytes : Nat) (first last : Bool) : Nat → Nat → List Mark
  | 0, sh => [⟨lowByte sh, first && 0 == wordBytes - 1, last⟩]
  | k + 1, sh => ⟨lowByte sh, first && k + 1 == wordBytes - 1, false⟩ :: owedBytes wordBytes first last k (sh / 256)

/-- The bytes of a word as R250 and R251 give them: byte j is `p_data[8j+7:8j]`, emitted j-th, `first` on byte 0 if the
word is marked first, `last` on byte W−1 if it is marked last. -/
def wordMarks (wordBytes word : Nat) (first last : Bool) : List Mark :=
  (List.range wordBytes).map fun j =>
    ⟨BitVec.ofNat 8 (word / 256 ^ j), first && j == 0, last && j == wordBytes - 1⟩

/-- What MBIN has latched and not yet handed to its inner INEP. -/
def Mbin.owed (wordBytes : Nat) (m : Mbin) : List Mark :=
  match m.mbState with
  | .idle => []
  | .transmit => owedBytes wordBytes m.latFirst m.latLast m.cnt m.shreg

/-- The bytes of the word MBIN takes in the tick that opened as `s`, if it takes one (R244, R247). -/
def State.wordTaken (s : State) : List Mark :=
  if s.inp.pValid && s.out.mb.pReady then wordMarks s.cfg.wordBytes s.word s.inp.pFirst s.inp.pLast else []

/-- The byte MBIN hands to its inner INEP in the tick that opened as `s`, if it hands one over (R246-R248). -/
def State.byteHanded (s : State) : List Mark :=
  if s.out.mb.iValid && s.regs.inep.ready then [⟨s.out.mb.iData, s.out.mb.iFirst, s.out.mb.iLast⟩] else []

/-! ## Packets on the IN side (R200, R219) -/

/-- The bytes of INEP's packet so far: being filled, or staged. -/
def Inep.packet (n : Inep) : List Byte := (List.range n.fillLen).map (readPbuf n.pbuf)

/-- The bytes of the packet that a transmission has not sent yet. -/
def Inep.unsent (n : Inep) : List Byte := if n.txActive then n.packet.drop n.txIdx else []

/-- The byte the transmitter takes in the tick that opened as `s`, if it takes one (R213, R214). -/
def State.sentNow (s : State) : List Byte := if s.out.inp.txValid && s.inp.txReady then [s.out.inp.txData] else []

/-- A targeted IN token is answered in the tick that opened as `s`. -/
def State.tokenAnswered (s : State) : Bool := s.inp.inReq && s.targetingIn

/-! ## Packets on the OUT stream (R189) -/

/-- The byte received in the tick that opened as `s`, if one is (R81). -/
def State.byteReceived (s : State) : List Byte := if s.inp.rxNext then [s.inp.rxData] else []

/-- A byte is emitted in the tick that opened as `s` and is not admitted (R181). -/
def State.byteDropped (s : State) : Bool := s.bdEmits && !s.okayToReceive

/-- A packet ends in the tick that opened as `s`. -/
def State.verdict (s : State) : Bool := s.inp.rxComplete || s.inp.rxInvalid

/-- The entries of one received packet: its bytes in order, `first` on the first alone, `last` on the last alone. -/
def framed : List Byte → List Entry
  | [] => []
  | [b] => [packEntry true true b]
  | b :: c :: bs => packEntry true false b :: go (c :: bs)
where
  go : List Byte → List Entry
    | [] => []
    | [b] => [packEntry false true b]
    | b :: c :: bs => packEntry false false b :: go (c :: bs)

/-! ## Packets behind the BD (R149, R150) -/

/-- What the BD emits in the tick that opened as `s`, admitted or not (R144, R145, R147). -/
def State.emitted (s : State) : List Mark :=
  let b := bdOut s.regs.bd s.inp (Config.freeBdData s.draws)
  if b.bdNext then [⟨b.bdData, b.bdFirst, b.bdLast⟩] else []

/-- A packet's bytes in order, `first` on the first alone, `last` on the last alone. -/
def marked (bytes : List Byte) : List Mark :=
  bytes.zipIdx.map fun (b, j) => ⟨b, j == 0, j + 1 == bytes.length⟩

end Sys2Proof.Machine
end

