-- ==== Sys2Proof/Certificates/Slice0/Obligations.lean ====
section
/-! DEFINITION. The statements for the provers. Each docstring names the rules of spec/ it formalises. A tick is spoken
of through its opened state `s.openTick`: the ports read and the outputs presented, registers still the pre-state. -/

open Sys2Proof Sys2Proof.Machine

/-! ## Encoding -/

/-- R80: an operation fires exactly when `(EV & mask) == match`. Decoding a value of a vector gives exactly the rows of
that vector whose masked bits match; "no row" exactly where none does; a value wider than its vector is rejected. -/
def Obligations.DecodeIsMaskAndMatch : Prop :=
  ∀ e : Event,
    (e.value.toNat < 2 ^ e.vec.width →
      (∀ rows, decode e = .ok rows → ∀ i, i ∈ rows ↔ (i.vec = e.vec ∧ e.value &&& i.maskWord = i.matchWord)) ∧
      (decode e = .error .noRow ↔ ∀ i : Instr, i.vec = e.vec → e.value &&& i.maskWord ≠ i.matchWord) ∧
      decode e ≠ .error .bitsAboveVector) ∧
    (2 ^ e.vec.width ≤ e.value.toNat → decode e = .error .bitsAboveVector)

/-- R80, R92-R102: every row's own word decodes to that row alone, and the row is decoded from every value of its vector
that agrees with its word on the mask, whatever the bits outside the mask are. -/
def Obligations.DecodeEncodeAgree : Prop :=
  ∀ i : Instr,
    decode (encode i) = .ok [i] ∧ (encode i).vec = i.vec ∧ (encode i).value &&& i.maskWord = (encode i).value ∧
    ∀ w : EvWord, w.toNat < 2 ^ i.vec.width → w &&& i.maskWord = (encode i).value →
      ∃ rows, decode ⟨i.vec, w⟩ = .ok rows ∧ i ∈ rows

/-- R80, R92-R102: in a vector with exclusive rows every legal value (one that matches no illegal row) decodes to one
row, a value of `EV_INACK` or `EV_RST` with bit 0 clear to none; in `EV_TF` and `EV_OUTRX` at most one row of each group
fires. -/
def Obligations.ExclusiveRowsAreUnique : Prop :=
  ∀ e : Event, e.value.toNat < 2 ^ e.vec.width →
    (∀ i : Instr, i.wf = false → i.vec = e.vec → e.value &&& i.maskWord ≠ i.matchWord) →
    (e.vec ≠ .tf → e.vec ≠ .outRx → ((e.vec = .inAck ∨ e.vec = .rst) → e.value.getLsbD 0 = true) →
      ∃ i, decode e = .ok [i]) ∧
    ((e.vec = .inAck ∨ e.vec = .rst) → e.value.getLsbD 0 = false → decode e = .error .noRow) ∧
    (∀ rows, decode e = .ok rows →
      ∀ group ∈ [[Instr.tfWrite, .tfWriteFull], [.tfWriteCommit, .tfWriteDiscard], [.tfRead, .tfReadEmpty],
          [.tfReadCommit, .tfReadDiscard], [.outRxWrite, .outRxDrop], [.outRxCommit, .outRxDiscard]],
        rows.countP (fun i => decide (i ∈ group)) ≤ 1)

/-- 95_test_vectors.md, one value or more of every vector: the rows that the tables of R92-R102 give for it. -/
def Obligations.SampleEventsDecode : Prop :=
  decode ⟨.tf, 0x25#8⟩ = .ok [.tfWrite, .tfWriteCommit] ∧
  decode ⟨.tf, 0x34#8⟩ = .ok [.tfWriteCommit, .tfReadEmpty] ∧
  decode ⟨.tf, 0x55#8⟩ = .ok [.tfWrite, .tfWriteCommit, .tfRead, .tfReadCommit] ∧
  decode ⟨.tf, 0x20#8⟩ = .ok [.tfNop] ∧
  decode ⟨.bd, 0x9#8⟩ = .ok [.bdRelay] ∧ decode ⟨.bd, 0xA#8⟩ = .ok [.bdEndComplete] ∧
  decode ⟨.outResp, 0x1D#8⟩ = .ok [.outDataAccept] ∧ decode ⟨.outResp, 0x0D#8⟩ = .ok [.outDataSkip] ∧
  decode ⟨.outResp, 0x16#8⟩ = .ok [.outPingNakNospace] ∧
  decode ⟨.outRx, 0x7#8⟩ = .ok [.outRxWrite, .outRxCommit] ∧
  decode ⟨.outRx, 0xB#8⟩ = .ok [.outRxWrite, .outRxDiscard] ∧
  decode ⟨.outStr, 0x2#8⟩ = .ok [.outStreamEmpty] ∧ decode ⟨.inFill, 0x7#8⟩ = .ok [.inCloseFullLast] ∧
  decode ⟨.inTok, 0x0F#8⟩ = .ok [.inSendData] ∧ decode ⟨.inTok, 0x0B#8⟩ = .ok [.inSendZlp] ∧
  decode ⟨.inTx, 0x7#8⟩ = .ok [.inTxLast] ∧ decode ⟨.inAck, 0x5#8⟩ = .ok [.inAckIgnored] ∧
  decode ⟨.mb, 0xC#8⟩ = .ok [.mbIdleWait] ∧ decode ⟨.mb, 0x7#8⟩ = .ok [.mbShift] ∧
  decode ⟨.rst, 0x1#8⟩ = .ok [.reset]

/-! ## The step -/

/-- R18, R102, R272, R49 (the joining of the two answers is the model's choice, log 2 and log 8): an instance that steps
reads the line's ports, presents its outputs from them and the pre-state, then runs RESET alone in a reset tick of its
own; else answers its fault condition that holds; else runs the rows of every vector of its components and gives every
register its scheduled value. The step of the machine is these two: while one goes on, the next state has each
instance's part, a fault being recorded and nothing else of that instance changed; where none goes on it is the fault,
of two the first in the order of R272; where none steps, nothing changes. -/
def Obligations.StepRunsOneTick : Prop :=
  ∀ s : State, s.cfg.legal = true →
    let u : State := { s with
      inp := resolve s.inp (s.script.headD {}), script := s.script.tail, nxt := s.regs,
      out := presented s.cfg s.regs (resolve s.inp (s.script.headD {})) s.draws }
    let v : State := { u with inp := { u.inp with rst := u.inp.inRst } }
    let close : State → Result := fun t => .next { t with regs := t.nxt, draws := t.draws + 1 }
    let o : Result :=
      if u.inp.rst then andThen (exec .reset u) close
      else match u.outTickFault with
        | some f => .fault f
        | none => andThen (runVecs (outVecs s.cfg) u) close
    let i : Result :=
      if v.inp.rst then andThen (exec .reset v) close
      else match v.inTickFault with
        | some f => .fault f
        | none => andThen (runVecs (inVecs s.cfg) v) fun t => close t.watchOffers
    s.openTick = u ∧
    (s.outLive → ∀ a, o = .next a →
      ∃ t, step s = .next t ∧ a.sameOut { t with outFault := a.outFault } ∧ t.outFault = none) ∧
    (s.inLive → ∀ b, i = .next b →
      ∃ t, step s = .next t ∧ b.sameIn { t with inFault := b.inFault } ∧ t.inFault = none) ∧
    (s.outLive → s.inLive → ∀ f b, o = .fault f → i = .next b →
      ∃ t, step s = .next t ∧ s.sameOut { t with outFault := s.outFault } ∧ t.outFault = some f) ∧
    (s.outLive → s.inLive → ∀ f a, i = .fault f → o = .next a →
      ∃ t, step s = .next t ∧ s.sameIn { t with inFault := s.inFault } ∧ t.inFault = some f) ∧
    (s.outLive → ∀ f, o = .fault f → ¬ s.inLive → step s = .fault f) ∧
    (s.outLive → s.inLive → ∀ f g, o = .fault f → i = .fault g → step s = .fault (firstFault f g)) ∧
    (s.inLive → ∀ f, i = .fault f → ¬ s.outLive → step s = .fault f) ∧
    (¬ s.outLive → ∀ t, step s = .next t → s.sameOut t) ∧
    (¬ s.inLive → ∀ t, step s = .next t → s.sameIn t) ∧
    (¬ s.outLive → ¬ s.inLive → step s = .next s)

/-- R80, R103: the value of every vector is assembled in every tick, and the rows run for it are the rows it decodes to:
one row runs as `exec` of it, no row changes nothing. -/
def Obligations.VectorRunsItsDecodedRows : Prop :=
  ∀ (v : Vec) (s : State),
    (∃ w : EvWord, w.toNat < 2 ^ v.width ∧ s.ev v = (bits8 w).take v.width) ∧
    ∀ w : EvWord, w.toNat < 2 ^ v.width → s.ev v = (bits8 w).take v.width →
      (∀ rows, decode ⟨v, w⟩ = .ok rows → runVec v s = execAll rows s) ∧
      (∀ i, decode ⟨v, w⟩ = .ok [i] → runVec v s = exec i s) ∧
      (decode ⟨v, w⟩ = .error .noRow → runVec v s = .next s)

/-- R46: the reset state. The arrays hold no value. A reset does not clear a recorded fault. -/
def Obligations.ResetLeavesTheStatedValues : Prop :=
  (∀ s : State, (s = State.reset ∨ ∃ c, s = State.resetOf c) →
    s.regs.tf.crp = 0 ∧ s.regs.tf.nRc = 0 ∧ s.regs.tf.nC = 0 ∧ s.regs.tf.nS = 0 ∧
    (∀ a, Cells.find? s.regs.tf.mem a = none) ∧
    s.regs.bd.holdValid = false ∧ s.regs.bd.isFirstByte = true ∧ s.regs.expectedDataToggle = false ∧
    s.regs.inep.inToggle = false ∧ s.regs.inep.fillLen = 0 ∧ s.regs.inep.staged = false ∧
    s.regs.inep.zlpPending = false ∧ s.regs.inep.txActive = false ∧ s.regs.inep.txIdx = 0 ∧
    s.regs.inep.awaitingAck = false ∧ (∀ a, Cells.find? s.regs.inep.pbuf a = none) ∧ s.regs.mb.mbState = .idle ∧
    s.regs.inep.prevOffer = none ∧ s.regs.mb.prevOffer = none ∧ s.outFault = none ∧ s.inFault = none) ∧
  (∀ (s : State) (f : Fault), s.outFault = some f → s.openTick.inp.rst = true → s.afterStep.outFault = some f) ∧
  (∀ (s : State) (f : Fault), s.inFault = some f → s.openTick.inp.inRst = true → s.afterStep.inFault = some f)

/-- R36, R39, R42, R43 at reset, for every configuration: the invariant of every instance that is built holds, and no
entry that is reachable is unwritten (D27). `cnt` and `shreg` are in range through the value the model names for them
(log 6). -/
def Obligations.InvariantsHoldAtReset : Prop :=
  (∀ c : Cfg, (State.resetOf c).Inv ∧ (State.resetOf c).Written) ∧ State.reset.Inv ∧ State.reset.Written

/-- R296, R266: the OUT endpoint is legal exactly when conditions 1 to 4 hold of its own parameters, the IN endpoint
exactly when 1 to 3 do and, for an MBIN, condition 5; the buffer depth defaults to twice the max packet size. The
model's choice (log 2, log 16): each instance is refused for itself, a refused one changes nothing, the step is refused
where no instance is built, and a standalone TFIFO needs a depth of at least 1. -/
def Obligations.ConfigurationIsChecked : Prop :=
  (∀ c : Cfg, c.outSide = .outep →
    (c.outLegal = true ↔ (c.outEp ≤ 15 ∧ c.outDir = .dirOut ∧ 1 ≤ c.outMps ∧ c.outMps ≤ c.bufDepth))) ∧
  (∀ c : Cfg, c.outSide = .tfifoAlone → (c.outLegal = true ↔ 1 ≤ c.bufDepth)) ∧
  (∀ c : Cfg, c.inLegal = true ↔
    (c.inEp ≤ 15 ∧ c.inDir = .dirIn ∧ 1 ≤ c.inMps ∧ (c.inSide = .mbin → 1 ≤ c.wordBytes))) ∧
  (∀ c : Cfg, (c.outBuilt = true ↔ (c.hasOut = true ∧ c.outLegal = true)) ∧
    (c.inBuilt = true ↔ (c.hasIn = true ∧ c.inLegal = true))) ∧
  (∀ s : State, s.cfg.outBuilt = false → s.cfg.inBuilt = false → step s = .refused .misconfigured) ∧
  (∀ s : State, (s.cfg.outBuilt = true ∨ s.cfg.inBuilt = true) → ∀ q, step s ≠ .refused q) ∧
  (∀ s : State, s.cfg.outBuilt = false → s.sameOut s.afterStep) ∧
  (∀ s : State, s.cfg.inBuilt = false → s.sameIn s.afterStep) ∧
  (∀ (o : OutSide) (i : InSide) (e m e' m' w : Nat),
    ({ outSide := o, inSide := i, outEp := e, outMps := m, inEp := e', inMps := m', wordBytes := w } : Cfg).bufDepth
      = 2 * m)

/-- R271, for each instance: a faulting tick changes nothing of it but the record of its code; every later step leaves it
as it is, whatever the other does. Where the machine answers the fault, nothing of the machine but the records
changes, then or later. -/
def Obligations.FaultIsRecordedAndSticky : Prop :=
  (∀ (s : State) (f : Fault), s.outLive → s.openTick.inp.rst = false → s.openTick.outTickFault = some f →
    s.afterStep.outFault = some f ∧ s.sameOut { s.afterStep with outFault := s.outFault }) ∧
  (∀ (s : State) (f : Fault) (k : Nat), s.outFault = some f → s.sameOut (State.after k s)) ∧
  (∀ (s : State) (f : Fault), s.inLive → s.openTick.inp.inRst = false → s.openTick.inTickFault = some f →
    s.afterStep.inFault = some f ∧ s.sameIn { s.afterStep with inFault := s.inFault }) ∧
  (∀ (s : State) (f : Fault) (k : Nat), s.inFault = some f → s.sameIn (State.after k s)) ∧
  (∀ (s : State) (f : Fault), step s = .fault f →
    ∃ o i, s.afterStep = { s with outFault := o, inFault := i } ∧ (o = some f ∨ i = some f) ∧
      ∀ k, State.after k s.afterStep = s.afterStep)

/-- R272 with the conditions of R270: a tick of an instance that is no reset tick faults exactly when one of the
instance's conditions holds, and then with the first in this order; a reset tick never faults; with a fault recorded
no other is taken. A machine of one instance answers that fault; where both instances fault in one tick the machine
answers the first in the one order over the conditions of both (log 8). MF8 is spelled out: an offer is pending, and `p_valid`
is 0 or the payload, `first` or `last` differs from it. That a standalone TFIFO has no MF10, and that either instance
takes MF10 for itself, is the model's reading (log 2). -/
def Obligations.FaultPriority : Prop :=
  ∀ s : State,
    let u := s.openTick
    let i := u.inp
    let outep := s.cfg.outSide == .outep
    let wordChanged : Bool :=
      match s.regs.mb.prevOffer with
      | none => false
      | some p => !i.pValid || p.data != u.word || p.first != i.pFirst || p.last != i.pLast
    let byteChanged : Bool :=
      match s.regs.inep.prevOffer with
      | none => false
      | some p => !u.inepIn.valid || p.data != u.inepIn.data.toNat || p.first != u.inepIn.first ||
          p.last != u.inepIn.last
    let mf1 := outep && (i.rxComplete && i.rxInvalid)
    let mf2 := outep && (i.rxNext && (i.rxComplete || i.rxInvalid))
    let mf3 := outep && (i.dataReq && i.pingReq)
    let mf4 := outep && (i.dataReq && u.targetingEndpoint && !i.rxComplete)
    let mf5 := if outep then i.rxComplete && i.rxInvalid else i.wc && i.wdis
    let mf6 := !outep && (i.rc && i.rdis)
    let mf7 := (if outep then u.okayToReceive && u.bdEmits else i.we) &&
      decide (s.regs.tf.nC + s.regs.tf.nS = s.cfg.bufDepth)
    let mf8 := (s.cfg.inSide == .mbin && wordChanged) || byteChanged
    let mf9 := i.inReq && u.targetingIn && s.regs.inep.txActive
    let mf10 := i.tokOut && i.tokIn
    let mf11 := i.inReq && i.hsInAck
    let outOrder : List (Bool × Fault) :=
      [(outep && mf10, .tokenBothDirections), (mf1, .bothVerdicts), (mf2, .byteWithVerdict), (mf3, .bothRequests),
       (mf4, .responseTiming), (mf5, .commitAndDiscard), (mf6, .commitAndUnread), (mf7, .overrun)]
    let inOrder : List (Bool × Fault) :=
      [(mf10, .tokenBothDirections), (mf11, .inReqWithAck), (mf9, .inReqDuringTx), (mf8, .offerRetracted)]
    let order : List (Bool × Fault) :=
      [(mf10, .tokenBothDirections), (mf1, .bothVerdicts), (mf2, .byteWithVerdict), (mf3, .bothRequests),
       (mf4, .responseTiming), (mf11, .inReqWithAck), (mf9, .inReqDuringTx), (mf8, .offerRetracted),
       (mf5, .commitAndDiscard), (mf6, .commitAndUnread), (mf7, .overrun)]
    (s.outLive → i.rst = false → s.afterStep.outFault = (outOrder.find? (·.1)).map (·.2)) ∧
    (s.outLive → i.rst = true → s.afterStep.outFault = none) ∧
    (∀ f, s.outFault = some f → s.afterStep.outFault = some f) ∧
    (s.inLive → i.inRst = false → s.afterStep.inFault = (inOrder.find? (·.1)).map (·.2)) ∧
    (s.inLive → i.inRst = true → s.afterStep.inFault = none) ∧
    (∀ f, s.inFault = some f → s.afterStep.inFault = some f) ∧
    (s.outLive → ¬ s.inLive → i.rst = false → ∀ f, step s = .fault f ↔ (outOrder.find? (·.1)).map (·.2) = some f) ∧
    (s.inLive → ¬ s.outLive → i.inRst = false → ∀ f, step s = .fault f ↔ (inOrder.find? (·.1)).map (·.2) = some f) ∧
    (s.outLive → s.inLive → i.rst = false → i.inRst = false → ∀ f,
      step s = .fault f ↔
        (outOrder.any (·.1) = true ∧ inOrder.any (·.1) = true ∧ (order.find? (·.1)).map (·.2) = some f))

/-! ## What a row stops on -/

/-- R104, R117: the illegal rows and TF_WRITE_FULL take their model fault in every state. R170-R172, R180, R203-R211,
R216-R218, R243, R245: the rows whose rules list an exception take it where the rule says. -/
def Obligations.RowsTakeTheirFaults : Prop :=
  ∀ s : State,
    exec .tfWriteFull s = .fault .overrun ∧
    exec .illegalTfMf5 s = .fault .commitAndDiscard ∧ exec .illegalTfMf6 s = .fault .commitAndUnread ∧
    exec .illegalBdMf1CompleteInvalid s = .fault .bothVerdicts ∧
    exec .illegalBdMf2NextComplete s = .fault .byteWithVerdict ∧
    exec .illegalBdMf2NextInvalid s = .fault .byteWithVerdict ∧
    exec .illegalOutrespMf3 s = .fault .bothRequests ∧ exec .illegalIntokMf9 s = .fault .inReqDuringTx ∧
    (∀ i ∈ [Instr.outDataAccept, .outDataSkip, .outDataNak], s.inp.rxComplete = false →
      exec i s = .fault .responseTiming) ∧
    (s.regs.tf.nC + s.regs.tf.nS = s.cfg.bufDepth → exec .outRxWrite s = .fault .overrun) ∧
    (∀ i ∈ [Instr.inFillByte, .inCloseShort, .inCloseFull, .inCloseFullLast, .inFillIdle], s.mf8In = true →
      exec i s = .fault .offerRetracted) ∧
    (∀ i ∈ [Instr.inSendData, .inSendZlp, .inNak, .inReqNotTargeted], s.inp.hsInAck = true →
      exec i s = .fault .inReqWithAck) ∧
    (∀ i ∈ [Instr.inAckData, .inAckZlp, .inAckIgnored], s.inp.inReq = true → exec i s = .fault .inReqWithAck) ∧
    (∀ i ∈ [Instr.mbIdleWait, .mbHold], s.mf8Mb = true → exec i s = .fault .offerRetracted)

/-! ## What each row does -/

/-- R116, R118, R119: TF_WRITE stores `wd` at `(crp + n_c + n_s) mod TF_DEPTH` and nothing else in `mem`, and grows the
run; TF_WRITE_COMMIT adds the run and this tick's write to the committed count and empties the run; TF_WRITE_DISCARD
empties the run. No other register and no output changes. -/
def Obligations.TfifoWriteRows : Prop :=
  ∀ s : State,
    (∃ t, exec .tfWrite s = .next t ∧ s.onlyTf t ∧
      (∀ a, a = (s.regs.tf.crp + s.regs.tf.nC + s.regs.tf.nS) % s.cfg.bufDepth →
        readMem t.nxt.tf.mem a = s.out.tf.wd) ∧
      (∀ a, a ≠ (s.regs.tf.crp + s.regs.tf.nC + s.regs.tf.nS) % s.cfg.bufDepth →
        readMem t.nxt.tf.mem a = readMem s.nxt.tf.mem a) ∧
      t.nxt.tf.nS = s.regs.tf.nS + 1 ∧ t.nxt.tf.crp = s.nxt.tf.crp ∧ t.nxt.tf.nRc = s.nxt.tf.nRc ∧
      t.nxt.tf.nC = s.nxt.tf.nC) ∧
    (∃ t, exec .tfWriteCommit s = .next t ∧ s.onlyTf t ∧
      t.nxt.tf = { s.nxt.tf with
        nC := s.nxt.tf.nC + s.regs.tf.nS +
          (if s.out.tf.we = true ∧ s.regs.tf.nC + s.regs.tf.nS ≠ s.cfg.bufDepth then 1 else 0),
        nS := 0 }) ∧
    (∃ t, exec .tfWriteDiscard s = .next t ∧ s.onlyTf t ∧ t.nxt.tf = { s.nxt.tf with nS := 0 })

/-- R120-R124: TF_READ counts one more entry read; TF_READ_COMMIT moves `crp` past the entries read, frees them and
settles the count; TF_READ_DISCARD takes the reads back; TF_READ_EMPTY and TF_NOP change nothing. `mem` keeps every
entry, no other register and no output changes. -/
def Obligations.TfifoReadRows : Prop :=
  ∀ s : State,
    (∃ t, exec .tfRead s = .next t ∧ s.onlyTf t ∧ t.nxt.tf = { s.nxt.tf with nRc := s.regs.tf.nRc + 1 }) ∧
    (∃ t, exec .tfReadCommit s = .next t ∧ s.onlyTf t ∧
      let r := if s.out.tf.re = true ∧ s.regs.tf.nC - s.regs.tf.nRc ≠ 0 then 1 else 0
      t.nxt.tf = { s.nxt.tf with
        crp := (s.regs.tf.crp + s.regs.tf.nRc + r) % s.cfg.bufDepth,
        nC := s.nxt.tf.nC - (s.regs.tf.nRc + r),
        nRc := 0 }) ∧
    (∃ t, exec .tfReadDiscard s = .next t ∧ s.onlyTf t ∧ t.nxt.tf = { s.nxt.tf with nRc := 0 }) ∧
    exec .tfReadEmpty s = .next s ∧ exec .tfNop s = .next s

/-- R142-R148: what each row of `EV_BD` emits and leaves in the hold; the outputs it does not name stand at their
defaults, no other register and no other output changes. -/
def Obligations.BoundaryRows : Prop :=
  ∀ s : State,
    exec .bdIdle s = .next s ∧
    (∃ t, exec .bdCapture s = .next t ∧ s.onlyBd t ∧ t.out.bd = s.out.bd ∧
      t.nxt.bd = { s.nxt.bd with holdValid := true, holdData := s.inp.rxData }) ∧
    (∃ t, exec .bdRelay s = .next t ∧ s.onlyBd t ∧
      t.out.bd = { s.out.bd with bdNext := true, bdData := s.regs.bd.holdData, bdFirst := s.regs.bd.isFirstByte,
                                 bdLast := false } ∧
      t.nxt.bd = { s.nxt.bd with holdData := s.inp.rxData, isFirstByte := false }) ∧
    (∃ t, exec .bdEndComplete s = .next t ∧ s.onlyBd t ∧
      t.out.bd = { s.out.bd with bdNext := true, bdData := s.regs.bd.holdData, bdFirst := s.regs.bd.isFirstByte,
                                 bdLast := true, bdComplete := true } ∧
      t.nxt.bd = { s.nxt.bd with holdValid := false, isFirstByte := true }) ∧
    (∃ t, exec .bdEndCompleteEmpty s = .next t ∧ s.onlyBd t ∧ t.out.bd = { s.out.bd with bdComplete := true } ∧
      t.nxt.bd = { s.nxt.bd with isFirstByte := true }) ∧
    (∃ t, exec .bdEndInvalid s = .next t ∧ s.onlyBd t ∧
      t.out.bd = { s.out.bd with bdNext := true, bdData := s.regs.bd.holdData, bdFirst := s.regs.bd.isFirstByte,
                                 bdLast := true, bdInvalid := true } ∧
      t.nxt.bd = { s.nxt.bd with holdValid := false, isFirstByte := true }) ∧
    (∃ t, exec .bdEndInvalidEmpty s = .next t ∧ s.onlyBd t ∧ t.out.bd = { s.out.bd with bdInvalid := true } ∧
      t.nxt.bd = { s.nxt.bd with isFirstByte := true })

/-- R170-R172: with the verdict in the request tick, OUT_DATA_ACCEPT asserts ACK and flips the toggle, OUT_DATA_SKIP
asserts ACK, OUT_DATA_NAK asserts NAK; nothing else changes. -/
def Obligations.OutDataRows : Prop :=
  ∀ s : State, s.inp.rxComplete = true →
    (∃ t, exec .outDataAccept s = .next t ∧ s.sameTick t ∧ t.out.outp.hsAck = true ∧ t.out.outp.hsNak = false ∧
      t.nxt = { s.nxt with expectedDataToggle := !s.regs.expectedDataToggle } ∧
      t.out = { s.out with outp := { s.out.outp with hsAck := true, hsNak := false } }) ∧
    (∃ t, exec .outDataSkip s = .next t ∧ s.onlyHandshake t ∧ t.out.outp.hsAck = true ∧ t.out.outp.hsNak = false) ∧
    (∃ t, exec .outDataNak s = .next t ∧ s.onlyHandshake t ∧ t.out.outp.hsAck = false ∧ t.out.outp.hsNak = true)

/-- R173-R178: the handshake of each other row of `EV_OUTRESP`; no register changes. -/
def Obligations.OutOtherResponseRows : Prop :=
  ∀ s : State,
    (∃ t, exec .outPingAck s = .next t ∧ s.onlyHandshake t ∧ t.out.outp.hsAck = true ∧ t.out.outp.hsNak = false) ∧
    (∃ t, exec .outPingNakNospace s = .next t ∧ s.onlyHandshake t ∧ t.out.outp.hsAck = false ∧
      t.out.outp.hsNak = true) ∧
    (∃ t, exec .outPingNakPidmismatch s = .next t ∧ s.onlyHandshake t ∧ t.out.outp.hsAck = false ∧
      t.out.outp.hsNak = true) ∧
    (∀ i ∈ [Instr.outDataNotTargeted, .outPingNotTargeted, .outRespIdle],
      ∃ t, exec i s = .next t ∧ s.onlyHandshake t ∧ t.out.outp.hsAck = false ∧ t.out.outp.hsNak = false)

/-- R180-R183: what each row of `EV_OUTRX` drives on the TFIFO's write side; OUT_RX_WRITE where the TFIFO is not full. No
register and no other port changes. -/
def Obligations.OutBufferRows : Prop :=
  ∀ s : State,
    (s.regs.tf.nC + s.regs.tf.nS ≠ s.cfg.bufDepth →
      ∃ t, exec .outRxWrite s = .next t ∧ s.onlyTfPorts t ∧
        t.out.tf = { s.out.tf with
          we := true
          wd := BitVec.ofBool s.out.bd.bdFirst ++ BitVec.ofBool s.out.bd.bdLast ++ s.out.bd.bdData }) ∧
    (∃ t, exec .outRxDrop s = .next t ∧ s.onlyTfPorts t ∧
      t.out.tf = { s.out.tf with
        we := false
        wd := BitVec.ofBool s.out.bd.bdFirst ++ BitVec.ofBool s.out.bd.bdLast ++ s.out.bd.bdData }) ∧
    (∃ t, exec .outRxCommit s = .next t ∧ s.onlyTfPorts t ∧ t.out.tf = { s.out.tf with wc := true }) ∧
    (∃ t, exec .outRxDiscard s = .next t ∧ s.onlyTfPorts t ∧ t.out.tf = { s.out.tf with wdis := true })

/-- R185-R187: what each row of `EV_OUTSTR` drives on the TFIFO's read side; no register and no other port changes. -/
def Obligations.OutStreamRows : Prop :=
  ∀ s : State,
    (∃ t, exec .outStreamXfer s = .next t ∧ s.onlyTfPorts t ∧ t.out.tf = { s.out.tf with re := true, rc := true }) ∧
    (∀ i ∈ [Instr.outStreamWait, .outStreamEmpty],
      ∃ t, exec i s = .next t ∧ s.onlyTfPorts t ∧ t.out.tf = { s.out.tf with re := false })

/-- R203-R207: with no pending offer retracted, each closing or filling row stores `p_data` at `pbuf[fill_len]` and
nothing else in `pbuf`, and sets the length, `staged` and `zlp_pending` as its rule says; IN_FILL_IDLE changes
nothing. -/
def Obligations.InFillRows : Prop :=
  ∀ s : State, s.mf8In = false →
    (∀ i ∈ [Instr.inFillByte, .inCloseShort, .inCloseFull, .inCloseFullLast],
      ∃ t, exec i s = .next t ∧ s.onlyInep t ∧ t.out.inp = s.out.inp ∧
        (∀ a, a = s.regs.inep.fillLen → readPbuf t.nxt.inep.pbuf a = s.inepIn.data) ∧
        (∀ a, a ≠ s.regs.inep.fillLen → readPbuf t.nxt.inep.pbuf a = readPbuf s.nxt.inep.pbuf a) ∧
        t.nxt.inep.fillLen =
          (if i = .inFillByte ∨ i = .inCloseShort then s.regs.inep.fillLen + 1 else s.cfg.inMps) ∧
        t.nxt.inep.staged = (if i = .inFillByte then s.nxt.inep.staged else true) ∧
        t.nxt.inep.zlpPending = (if i = .inCloseFullLast then true else s.nxt.inep.zlpPending) ∧
        t.nxt.inep.inToggle = s.nxt.inep.inToggle ∧ t.nxt.inep.txActive = s.nxt.inep.txActive ∧
        t.nxt.inep.txIdx = s.nxt.inep.txIdx ∧ t.nxt.inep.awaitingAck = s.nxt.inep.awaitingAck ∧
        t.nxt.inep.prevOffer = s.nxt.inep.prevOffer) ∧
    exec .inFillIdle s = .next s

/-- R208-R211, R226: with no host ACK in the tick, IN_SEND_DATA starts the transmission, IN_SEND_ZLP asserts `tx_zlp` and
awaits the ACK, IN_NAK asserts `hs_nak`, IN_REQ_NOT_TARGETED does nothing; IN_TOK_IDLE asserts neither. Nothing else
changes. -/
def Obligations.InTokenRows : Prop :=
  ∀ s : State,
    (s.inp.hsInAck = false →
      (∃ t, exec .inSendData s = .next t ∧ s.onlyInep t ∧
        t.nxt.inep = { s.nxt.inep with txActive := true, txIdx := 0, awaitingAck := false } ∧
        t.out.inp = { s.out.inp with hsNak := false, txZlp := false }) ∧
      (∃ t, exec .inSendZlp s = .next t ∧ s.onlyInep t ∧ t.nxt.inep = { s.nxt.inep with awaitingAck := true } ∧
        t.out.inp = { s.out.inp with hsNak := false, txZlp := true }) ∧
      (∃ t, exec .inNak s = .next t ∧ s.onlyInep t ∧ t.nxt.inep = s.nxt.inep ∧
        t.out.inp = { s.out.inp with hsNak := true, txZlp := false }) ∧
      exec .inReqNotTargeted s = .next s) ∧
    (∃ t, exec .inTokIdle s = .next t ∧ s.onlyInep t ∧ t.nxt.inep = s.nxt.inep ∧
      t.out.inp = { s.out.inp with hsNak := false, txZlp := false })

/-- R213-R215, R227, R216-R218: each row of the transmit side; each row of the ACK side, with no IN request in the
tick. Nothing else changes: `pbuf` and the lengths stay for a retransmission. -/
def Obligations.InTransmitAndAckRows : Prop :=
  ∀ s : State,
    (∃ t, exec .inTxByte s = .next t ∧ s.onlyInep t ∧ t.out.inp = s.out.inp ∧
      t.nxt.inep = { s.nxt.inep with txIdx := s.regs.inep.txIdx + 1 }) ∧
    (∃ t, exec .inTxLast s = .next t ∧ s.onlyInep t ∧ t.out.inp = s.out.inp ∧
      t.nxt.inep = { s.nxt.inep with txActive := false, txIdx := 0, awaitingAck := true }) ∧
    exec .inTxWait s = .next s ∧
    (∃ t, exec .inTxIdle s = .next t ∧ s.onlyInep t ∧ t.nxt.inep = s.nxt.inep ∧
      t.out.inp = { s.out.inp with txValid := false }) ∧
    (s.inp.inReq = false →
      (∃ t, exec .inAckData s = .next t ∧ s.onlyInep t ∧ t.out.inp = s.out.inp ∧
        t.nxt.inep = { s.nxt.inep with
          inToggle := !s.regs.inep.inToggle, staged := false, fillLen := 0, awaitingAck := false }) ∧
      (∃ t, exec .inAckZlp s = .next t ∧ s.onlyInep t ∧ t.out.inp = s.out.inp ∧
        t.nxt.inep = { s.nxt.inep with
          inToggle := !s.regs.inep.inToggle, zlpPending := false, awaitingAck := false }) ∧
      exec .inAckIgnored s = .next s)

/-- R243-R248: MB_LOAD and MB_RELOAD latch the word offered, MB_SHIFT drops the byte just presented, MB_FINISH returns to
IDLE, MB_IDLE_WAIT and MB_HOLD (with no pending word retracted) change nothing. No other register and no output
changes. -/
def Obligations.MbinRows : Prop :=
  ∀ s : State,
    (∀ i ∈ [Instr.mbLoad, .mbReload],
      ∃ t, exec i s = .next t ∧ s.onlyMb t ∧
        t.nxt.mb = { s.nxt.mb with
          shreg := s.inp.pData % 2 ^ (8 * s.cfg.wordBytes), latFirst := s.inp.pFirst, latLast := s.inp.pLast,
          cnt := s.cfg.wordBytes - 1, mbState := .transmit }) ∧
    (∃ t, exec .mbShift s = .next t ∧ s.onlyMb t ∧
      t.nxt.mb = { s.nxt.mb with shreg := s.regs.mb.shreg / 2 ^ 8, cnt := s.regs.mb.cnt - 1 }) ∧
    (∃ t, exec .mbFinish s = .next t ∧ s.onlyMb t ∧ t.nxt.mb = { s.nxt.mb with mbState := .idle }) ∧
    (s.mf8Mb = false → exec .mbIdleWait s = .next s ∧ exec .mbHold s = .next s)

/-- R291, R292: RESET schedules every control register to its initial value and leaves the arrays, `hold_data`, `shreg`,
`cnt` and the latched flags; it forces the outputs idle; `tx_pid_toggle` stands. -/
def Obligations.ResetRow : Prop :=
  ∀ s : State, ∃ t, exec .reset s = .next t ∧ s.sameTick t ∧
    t.nxt.tf = { s.regs.tf with crp := 0, nRc := 0, nC := 0, nS := 0 } ∧
    t.nxt.bd = { s.regs.bd with holdValid := false, isFirstByte := true } ∧
    t.nxt.expectedDataToggle = false ∧
    t.nxt.inep = { s.regs.inep with
      inToggle := false, fillLen := 0, staged := false, zlpPending := false, txActive := false, txIdx := 0,
      awaitingAck := false, prevOffer := none } ∧
    t.nxt.mb = { s.regs.mb with mbState := .idle, prevOffer := none } ∧
    t.out.outp.hsAck = false ∧ t.out.outp.hsNak = false ∧ t.out.outp.sValid = false ∧
    t.out.inp.pReady = false ∧ t.out.mb.pReady = false ∧ t.out.inp.hsNak = false ∧ t.out.inp.txValid = false ∧
    t.out.inp.txZlp = false ∧ t.out.inp.txPidToggle = s.out.inp.txPidToggle

/-- R16, R18: no row changes the pre-state, the ports it reads, the configuration, the inputs to come or the recorded
fault: registers change at the tick boundary alone. -/
def Obligations.RowsKeepThePreState : Prop :=
  ∀ (i : Instr) (s t : State), exec i s = .next t → s.sameTick t

/-- R50, R40: who writes what. Apart from RESET, the TFIFO's registers are scheduled by the rows of `EV_TF` alone, the
BD's by those of `EV_BD`, `expected_data_toggle` by OUT_DATA_ACCEPT, INEP's by the rows of its four vectors, MBIN's by
those of `EV_MB`. -/
def Obligations.RowsWriteTheirComponent : Prop :=
  ∀ (i : Instr) (s t : State), exec i s = .next t → i ≠ .reset →
    (i.vec ≠ .tf → t.nxt.tf = s.nxt.tf) ∧ (i.vec ≠ .bd → t.nxt.bd = s.nxt.bd) ∧
    (i ≠ .outDataAccept → t.nxt.expectedDataToggle = s.nxt.expectedDataToggle) ∧
    (i.vec ≠ .inFill → i.vec ≠ .inTok → i.vec ≠ .inTx → i.vec ≠ .inAck → t.nxt.inep = s.nxt.inep) ∧
    (i.vec ≠ .mb → t.nxt.mb = s.nxt.mb)

/-! ## Flags, conditions and outputs -/

/-- R112-R114: the TFIFO's status outputs in every tick, from the pre-state; a run of any length leaves `empty` as it is;
the values right after reset. -/
def Obligations.TfifoFlags : Prop :=
  (∀ s : State,
    (s.openTick.out.tf.empty = true ↔ s.regs.tf.nC - s.regs.tf.nRc = 0) ∧
    (s.openTick.out.tf.full = true ↔ s.regs.tf.nC + s.regs.tf.nS = s.cfg.bufDepth) ∧
    s.openTick.out.tf.spaceAvailable = s.cfg.bufDepth - s.regs.tf.nC - s.regs.tf.nS ∧
    s.openTick.out.tf.runSpace = s.cfg.bufDepth - s.regs.tf.nC) ∧
  (∀ (t : Tfifo) (n : Nat), Tfifo.empty { t with nS := n } = t.empty) ∧
  (∀ c : Cfg, c.outBuilt = true →
    let o := (State.resetOf c).openTick.out.tf
    o.empty = true ∧ o.full = false ∧ o.spaceAvailable = c.bufDepth ∧ o.runSpace = c.bufDepth)

/-- R162, R163, R165-R167: OUTEP's derived conditions, with `sufficient_space` as R164's inequality. -/
def Obligations.OutConditions : Prop :=
  ∀ s : State,
    (s.targetingEndpoint = true ↔ (s.inp.tokEp.toNat = s.cfg.outEp ∧ s.inp.tokOut = true)) ∧
    (s.expectedPidMatch = true ↔ s.inp.rxPidToggle = s.regs.expectedDataToggle) ∧
    (s.sufficientSpace = true ↔ s.cfg.bufDepth - s.regs.tf.nC ≥ s.cfg.outMps) ∧
    (s.okayToReceive = true ↔
      (s.targetingEndpoint = true ∧ s.sufficientSpace = true ∧ s.expectedPidMatch = true)) ∧
    (s.shouldSkip = true ↔ (s.targetingEndpoint = true ∧ s.expectedPidMatch = false)) ∧
    (s.dataRespReq = true ↔ (s.inp.dataReq = true ∧ s.targetingEndpoint = true)) ∧
    (s.pingRespReq = true ↔ (s.inp.pingReq = true ∧ s.targetingEndpoint = true))

/-- R168, R169: the handshake a tick of OUTEP drives is what the two equations say, and never both. -/
def Obligations.HandshakeEquations : Prop :=
  ∀ s : State, s.outLive → s.cfg.outSide = .outep → s.openTick.inp.rst = false → s.openTick.outTickFault = none →
    let u := s.openTick
    ∃ t, step s = .next t ∧
      t.out.outp.hsAck = ((u.dataRespReq && u.okayToReceive) || (u.pingRespReq && u.okayToReceive) ||
        (u.dataRespReq && u.shouldSkip)) ∧
      t.out.outp.hsNak = ((u.dataRespReq && !u.okayToReceive && !u.shouldSkip) ||
        (u.pingRespReq && !u.okayToReceive)) ∧
      ¬ (t.out.outp.hsAck = true ∧ t.out.outp.hsNak = true)

/-- R179: the toggle flips in a tick of OUTEP exactly when a targeted DATA response is requested while `okay_to_receive`
holds, the tick being no reset tick and no faulting one; every other tick without reset leaves it. -/
def Obligations.ToggleUpdate : Prop :=
  ∀ s : State, s.openTick.inp.rst = false →
    s.afterStep.regs.expectedDataToggle =
      if s.cfg.outBuilt = true ∧ s.outFault = none ∧ s.openTick.outTickFault = none ∧ s.cfg.outSide = .outep ∧
          s.openTick.dataRespReq = true ∧ s.openTick.okayToReceive = true
      then !s.regs.expectedDataToggle else s.regs.expectedDataToggle

/-- R184, R188: the consumer stream shows the entry at the read index whenever a committed entry is unread; the TFIFO's
read side is wired `re = s_valid ∧ s_ready`, `rc = 1`, `rdis = 0` in every tick of OUTEP. That the wiring stands in a
reset tick too, on the `s_valid` that R292 forces to 0, is the model's deduction (log 12). -/
def Obligations.ConsumerStream : Prop :=
  ∀ s : State, s.outLive → s.cfg.outSide = .outep →
    (s.openTick.inp.rst = false → s.openTick.outTickFault = none →
      ∃ t, step s = .next t ∧
        (t.out.outp.sValid = true ↔ s.regs.tf.nC - s.regs.tf.nRc ≠ 0) ∧
        (t.out.outp.sValid = true →
          BitVec.ofBool t.out.outp.sFirst ++ BitVec.ofBool t.out.outp.sLast ++ t.out.outp.sData =
            readMem s.regs.tf.mem ((s.regs.tf.crp + s.regs.tf.nRc) % s.cfg.bufDepth)) ∧
        t.out.tf.re = (t.out.outp.sValid && s.openTick.inp.sReady) ∧ t.out.tf.rc = true ∧ t.out.tf.rdis = false) ∧
    (s.openTick.inp.rst = true →
      ∃ t, step s = .next t ∧ t.out.outp.sValid = false ∧ t.out.tf.re = false ∧ t.out.tf.rc = true ∧
        t.out.tf.rdis = false)

/-- R91, R202, R212: INEP's outputs in a tick, from the pre-state; a byte is stored only while `p_ready`. -/
def Obligations.TransmitOutputs : Prop :=
  ∀ s : State, s.inLive →
    (s.openTick.inp.inRst = false → s.openTick.inTickFault = none →
      let n := s.regs.inep
      ∃ t, step s = .next t ∧
        t.out.inp.pReady = (!n.staged && !n.zlpPending) ∧
        s.openTick.xferP = (s.openTick.inepIn.valid && t.out.inp.pReady) ∧ t.out.inp.txValid = n.txActive ∧
        (n.txActive = true → t.out.inp.txData = readPbuf n.pbuf n.txIdx) ∧
        (t.out.inp.txFirst = true ↔ (n.txActive = true ∧ n.txIdx = 0)) ∧
        (t.out.inp.txLast = true ↔ (n.txActive = true ∧ (n.txIdx : Int) = (n.fillLen : Int) - 1)) ∧
        t.out.inp.txPidToggle = n.inToggle ∧
        (t.out.inp.pReady = false → t.regs.inep.pbuf = n.pbuf)) ∧
    (s.openTick.inp.inRst = true → ∃ t, step s = .next t ∧ t.out.inp.txPidToggle = s.regs.inep.inToggle)

/-- R241, R242: MBIN's outputs in each of its states, from the pre-state; while the inner INEP does not accept the byte,
every register MBIN presents it from keeps its value. -/
def Obligations.MbinOutputs : Prop :=
  ∀ s : State, s.inLive → s.cfg.inSide = .mbin → s.openTick.inp.inRst = false → s.openTick.inTickFault = none →
    let m := s.regs.mb
    let ready := !s.regs.inep.staged && !s.regs.inep.zlpPending
    ∃ t, step s = .next t ∧
      (m.mbState = .idle → t.out.mb.pReady = true ∧ t.out.mb.iValid = false) ∧
      (m.mbState = .transmit →
        t.out.mb.iValid = true ∧ t.out.mb.iData.toNat = m.shreg % 2 ^ 8 ∧
        (t.out.mb.iFirst = true ↔ (m.latFirst = true ∧ (m.cnt : Int) = (s.cfg.wordBytes : Int) - 1)) ∧
        (t.out.mb.iLast = true ↔ (m.latLast = true ∧ m.cnt = 0)) ∧
        (t.out.mb.pReady = true ↔ (ready = true ∧ m.cnt = 0)) ∧
        (ready = false → t.regs.mb.mbState = .transmit ∧ t.regs.mb.shreg = m.shreg ∧ t.regs.mb.cnt = m.cnt ∧
          t.regs.mb.latFirst = m.latFirst ∧ t.regs.mb.latLast = m.latLast))

/-! ## Whole ticks -/

/-- R125: a tick of a standalone TFIFO leaves the registers that the next-state function gives on its ports. -/
def Obligations.StandaloneTfifoTick : Prop :=
  ∀ s : State, s.outLive → s.cfg.outSide = .tfifoAlone → s.openTick.inp.rst = false → s.openTick.outTickFault = none →
    let i := s.openTick.inp
    ∃ t, step s = .next t ∧
      t.regs.tf = tfTick s.cfg.bufDepth s.regs.tf
        { we := i.we, wd := i.wd, wc := i.wc, wdis := i.wdis, re := i.re, rc := i.rc, rdis := i.rdis } ∧
      t.regs.bd = s.regs.bd ∧ t.regs.expectedDataToggle = s.regs.expectedDataToggle

/-- R197, R160, R161: a tick of OUTEP leaves the registers and the handshake that the next-state function gives, with its
BD and its TFIFO wired as it says, `wd` in every such tick; what it emits from the BD is `bdOut`. -/
def Obligations.OutepTick : Prop :=
  ∀ s : State, s.outLive → s.cfg.outSide = .outep → s.openTick.inp.rst = false → s.openTick.outTickFault = none →
    let r := outepTick s.cfg s.regs s.openTick.inp (Config.freeBdData s.draws)
    ∃ t, step s = .next t ∧
      t.regs.tf = r.tf ∧ t.regs.bd = r.bd ∧ t.regs.expectedDataToggle = r.toggle ∧
      t.out.outp.hsAck = r.hsAck ∧ t.out.outp.hsNak = r.hsNak ∧
      t.out.bd = bdOut s.regs.bd s.openTick.inp (Config.freeBdData s.draws) ∧
      t.out.tf.we = (s.openTick.okayToReceive && t.out.bd.bdNext) ∧
      t.out.tf.wd = BitVec.ofBool t.out.bd.bdFirst ++ BitVec.ofBool t.out.bd.bdLast ++ t.out.bd.bdData ∧
      t.out.tf.wc = t.out.bd.bdComplete ∧ t.out.tf.wdis = t.out.bd.bdInvalid

/-- R225, R44: a tick of a byte-stream INEP leaves the registers that the next-state function gives on its producer port,
and asserts `hs_nak` and `tx_zlp` as it says; `prev_offer` is the offer exactly when it was valid and not taken; no MBIN
register changes. -/
def Obligations.InepTick : Prop :=
  ∀ s : State, s.inLive → s.cfg.inSide = .inep → s.openTick.inp.inRst = false → s.openTick.inTickFault = none →
    let i := s.openTick.inp
    let tgt := i.tokIn && i.tokEp.toNat == s.cfg.inEp
    ∃ t, step s = .next t ∧
      t.regs.inep = inepTick s.cfg s.regs.inep i ⟨i.pValid, BitVec.ofNat 8 i.pData, i.pFirst, i.pLast⟩ ∧
      t.regs.inep.prevOffer =
        (if i.pValid = true ∧ (s.regs.inep.staged = true ∨ s.regs.inep.zlpPending = true)
         then some ⟨i.pData % 2 ^ 8, i.pFirst, i.pLast⟩ else none) ∧
      t.out.inp.hsNak = (i.inReq && tgt && !s.regs.inep.staged && !s.regs.inep.zlpPending) ∧
      t.out.inp.txZlp = (i.inReq && tgt && !s.regs.inep.staged && s.regs.inep.zlpPending) ∧
      t.regs.mb = s.regs.mb

/-- R253, R240, R44: a tick of MBIN leaves the registers that the next-state function gives, and its inner INEP those of
R225 on the byte stream MBIN drives; each `prev_offer` is the offer exactly when it was valid and not taken. -/
def Obligations.MbinTick : Prop :=
  ∀ s : State, s.inLive → s.cfg.inSide = .mbin → s.openTick.inp.inRst = false → s.openTick.inTickFault = none →
    let i := s.openTick.inp
    let ready := !s.regs.inep.staged && !s.regs.inep.zlpPending
    ∃ t, step s = .next t ∧
      t.regs.mb = mbinTick s.cfg s.regs.mb i ready ∧
      t.regs.inep = inepTick s.cfg s.regs.inep i ⟨t.out.mb.iValid, t.out.mb.iData, t.out.mb.iFirst, t.out.mb.iLast⟩ ∧
      t.regs.mb.prevOffer =
        (if i.pValid = true ∧ t.out.mb.pReady = false
         then some ⟨i.pData % 2 ^ (8 * s.cfg.wordBytes), i.pFirst, i.pLast⟩ else none) ∧
      t.regs.inep.prevOffer =
        (if t.out.mb.iValid = true ∧ ready = false
         then some ⟨t.out.mb.iData.toNat, t.out.mb.iFirst, t.out.mb.iLast⟩ else none)

/-- R291, R292, R290, for each instance and its own `rst` (R293): a reset tick brings every component of the instance to
its initial state, whatever its other inputs are, and forces its outputs idle; a second one repeats it; right after it
the TFIFO is empty with all its space. -/
def Obligations.ResetTick : Prop :=
  (∀ s : State, s.outLive → s.openTick.inp.rst = true →
    ∃ t, step s = .next t ∧
      t.regs.tf = { s.regs.tf with crp := 0, nRc := 0, nC := 0, nS := 0 } ∧
      t.regs.bd = { s.regs.bd with holdValid := false, isFirstByte := true } ∧
      t.regs.expectedDataToggle = false ∧ t.outFault = none ∧
      t.out.outp.hsAck = false ∧ t.out.outp.hsNak = false ∧ t.out.outp.sValid = false ∧
      t.openTick.out.tf.empty = true ∧ t.openTick.out.tf.full = false ∧
      t.openTick.out.tf.spaceAvailable = s.cfg.bufDepth ∧ t.openTick.out.tf.runSpace = s.cfg.bufDepth ∧
      (t.openTick.inp.rst = true → ∃ t', step t = .next t' ∧ t'.regs.tf = t.regs.tf ∧ t'.regs.bd = t.regs.bd ∧
        t'.regs.expectedDataToggle = t.regs.expectedDataToggle)) ∧
  (∀ s : State, s.inLive → s.openTick.inp.inRst = true →
    ∃ t, step s = .next t ∧
      t.regs.inep = { s.regs.inep with
        inToggle := false, fillLen := 0, staged := false, zlpPending := false, txActive := false, txIdx := 0,
        awaitingAck := false, prevOffer := none } ∧
      t.regs.mb = { s.regs.mb with mbState := .idle, prevOffer := none } ∧ t.inFault = none ∧
      t.out.inp.pReady = false ∧ t.out.mb.pReady = false ∧ t.out.inp.hsNak = false ∧ t.out.inp.txValid = false ∧
      t.out.inp.txZlp = false ∧ t.out.inp.txPidToggle = s.regs.inep.inToggle ∧
      (t.openTick.inp.inRst = true → ∃ t', step t = .next t' ∧ t'.regs.inep = t.regs.inep ∧ t'.regs.mb = t.regs.mb))

/-! ## Invariants -/

/-- R36, R39, R42, R43, R126, with the canonical form of both arrays: every step that answers a next state keeps the
invariant of the registers, from every state that has it. -/
def Obligations.StepKeepsTheInvariants : Prop :=
  ∀ s t : State, s.Inv → step s = .next t → t.Inv

/-- D27, U1, U3: "No rule reads an unspecified value before writing it". Every entry of the committed range and of the
run, and every byte of the packet, stays a written one. -/
def Obligations.StepKeepsReachableEntriesWritten : Prop :=
  ∀ s t : State, s.Inv → s.Written → step s = .next t → t.Written

/-- R12, R48: no step changes the configuration. R44, R271 (and log 8 for the state kept whole): a recorded fault stays,
and where no instance steps the state stays. R107: a tick reads one line (log 3: of the script the state holds): a
strobe the line does not write is 0, a level it does not write keeps its last value. -/
def Obligations.StepKeepsTheConfiguration : Prop :=
  ∀ s t : State, step s = .next t →
    t.cfg = s.cfg ∧ (∀ f, s.outFault = some f → t.outFault = some f) ∧ (∀ f, s.inFault = some f → t.inFault = some f) ∧
    (¬ s.outLive → ¬ s.inLive → t = s) ∧
    ((s.outLive ∨ s.inLive) →
      let l := s.script.headD {}
      t.script = s.script.tail ∧
      t.inp.rst = l.rst ∧ t.inp.inRst = l.inRst ∧ t.inp.dataReq = l.dataReq ∧ t.inp.pingReq = l.pingReq ∧
      t.inp.rxNext = l.rxNext ∧ t.inp.rxComplete = l.rxComplete ∧ t.inp.rxInvalid = l.rxInvalid ∧
      t.inp.inReq = l.inReq ∧ t.inp.hsInAck = l.hsInAck ∧
      (l = {} → t.inp.rst = false ∧ t.inp.inRst = false ∧ t.inp.dataReq = false ∧ t.inp.pingReq = false ∧
        t.inp.rxNext = false ∧ t.inp.rxComplete = false ∧ t.inp.rxInvalid = false ∧ t.inp.inReq = false ∧
        t.inp.hsInAck = false) ∧
      (∀ v, l.tokEp = some v → t.inp.tokEp = v) ∧ (l.tokEp = none → t.inp.tokEp = s.inp.tokEp) ∧
      (∀ v, l.tokOut = some v → t.inp.tokOut = v) ∧ (l.tokOut = none → t.inp.tokOut = s.inp.tokOut) ∧
      (∀ v, l.tokIn = some v → t.inp.tokIn = v) ∧ (l.tokIn = none → t.inp.tokIn = s.inp.tokIn) ∧
      (∀ v, l.rxPidToggle = some v → t.inp.rxPidToggle = v) ∧
      (l.rxPidToggle = none → t.inp.rxPidToggle = s.inp.rxPidToggle) ∧
      (∀ v, l.sReady = some v → t.inp.sReady = v) ∧ (l.sReady = none → t.inp.sReady = s.inp.sReady) ∧
      (∀ v, l.txReady = some v → t.inp.txReady = v) ∧ (l.txReady = none → t.inp.txReady = s.inp.txReady) ∧
      (∀ v, l.pValid = some v → t.inp.pValid = v) ∧ (l.pValid = none → t.inp.pValid = s.inp.pValid) ∧
      (∀ v, l.pData = some v → t.inp.pData = v) ∧ (l.pData = none → t.inp.pData = s.inp.pData) ∧
      (∀ v, l.pFirst = some v → t.inp.pFirst = v) ∧ (l.pFirst = none → t.inp.pFirst = s.inp.pFirst) ∧
      (∀ v, l.pLast = some v → t.inp.pLast = v) ∧ (l.pLast = none → t.inp.pLast = s.inp.pLast))

/-! ## The TFIFO as a transactional queue -/

/-- R110, R111, R118-R123, R70-R72: one tick of the TFIFO does to the queue it stands for what the contract says; `empty`
says that no committed entry is unread, `read_data` is the oldest one. -/
def Obligations.TfifoRefinesQueue : Prop :=
  ∀ (depth : Nat) (t : Tfifo) (i : TfIn), t.Inv depth →
    (i.wc && i.wdis) = false → (i.rc && i.rdis) = false → (i.we && t.full depth) = false →
    (tfTick depth t i).queue depth = (t.queue depth).tick i ∧
    (t.empty = true ↔ (t.queue depth).unread = []) ∧
    (∀ e rest, (t.queue depth).unread = e :: rest → readMem t.mem (t.rp depth) = e)

/-- R71, R193, R70: over any ticks of OUTEP without reset or fault, the entries the consumer takes followed by those
still unread are the entries unread before followed by those committed: none is dropped, doubled or reordered, however
`s_ready` moves, and nothing uncommitted is ever shown. -/
def Obligations.ConsumerStreamIsFifo : Prop :=
  ∀ (k : Nat) (s : State), s.cfg.outSide = .outep → s.Inv → s.outClean k →
    s.collect State.takenByConsumer k ++ (State.after k s).queue.unread =
      s.queue.unread ++ s.collect State.committedNow k

/-- R310: at a drained end of a run that began with nothing unread, the consumer has taken exactly the entries
committed, in order. -/
def Obligations.DrainedRunDeliversAll : Prop :=
  ∀ (k : Nat) (s : State), s.cfg.outSide = .outep → s.Inv → s.regs.tf.nC = 0 → s.outClean k →
    (State.after k s).drained → s.collect State.takenByConsumer k = s.collect State.committedNow k

/-- R149, R150: a packet received from a packet boundary and ended by either verdict, admitted or not, is emitted by the
BD as its bytes in received order, `first` on the first alone, `last` on the last alone. R189 (with R299's premise): if
every byte of it was admitted and the check is valid, it is committed so, and joins the end of the consumer's
stream. -/
def Obligations.PacketsAreFramed : Prop :=
  (∀ (k : Nat) (s : State), s.cfg.outSide = .outep → s.Inv → s.regs.bd.holdValid = false → s.outClean (k + 1) →
    s.count State.verdict k = 0 → (State.after k s).openTick.verdict = true →
    s.collect State.emitted (k + 1) = marked (s.collect State.byteReceived k)) ∧
  (∀ (k : Nat) (s : State), s.cfg.outSide = .outep → s.Inv → s.regs.tf.nS = 0 → s.regs.bd.holdValid = false →
    s.outClean (k + 1) → s.count State.verdict k = 0 → s.count State.byteDropped (k + 1) = 0 →
    (State.after k s).openTick.inp.rxComplete = true →
    (State.after k s).openTick.committedNow = framed (s.collect State.byteReceived k) ∧
    ∃ older, (State.after (k + 1) s).queue.unread = older ++ framed (s.collect State.byteReceived k))

/-- R191, R262: over a packet that ends in a failed check nothing joins the consumer's stream, the run is gone, and the
toggle stands. -/
def Obligations.DiscardedPacketLeavesNothing : Prop :=
  ∀ (k : Nat) (s : State), s.cfg.outSide = .outep → s.Inv → s.outClean (k + 1) →
    s.count (fun u => u.inp.rxComplete) (k + 1) = 0 → (State.after k s).openTick.inp.rxInvalid = true →
    s.collect State.takenByConsumer (k + 1) ++ (State.after (k + 1) s).queue.unread = s.queue.unread ∧
    (State.after (k + 1) s).queue.run = [] ∧
    (State.after (k + 1) s).regs.expectedDataToggle = s.regs.expectedDataToggle

/-- R192: while the token targets this endpoint and the packet's PID does not match, every DATA request is ACKed, no byte
joins the run or the consumer's stream, and the toggle stands. -/
def Obligations.DuplicateIsAckedAndSkipped : Prop :=
  ∀ (k : Nat) (s : State), s.cfg.outSide = .outep → s.Inv → s.regs.tf.nS = 0 → s.outClean k →
    (∀ j < k, (State.after j s).openTick.shouldSkip = true) →
    s.collect State.takenByConsumer k ++ (State.after k s).queue.unread = s.queue.unread ∧
    (State.after k s).regs.tf.nS = 0 ∧ (State.after k s).regs.expectedDataToggle = s.regs.expectedDataToggle ∧
    (∀ j < k, (State.after j s).openTick.inp.dataReq = true →
      (State.after (j + 1) s).out.outp.hsAck = true ∧ (State.after (j + 1) s).out.outp.hsNak = false)

/-- R190: after N acceptances the toggle is the initial one XOR N mod 2. -/
def Obligations.ToggleCountsAcceptances : Prop :=
  ∀ (k : Nat) (s : State), s.cfg.outSide = .outep → s.outClean k →
    (State.after k s).regs.expectedDataToggle =
      (s.regs.expectedDataToggle ^^ decide (s.count State.accepts k % 2 = 1))

/-- R193, R300: a packet of at most `MPS` bytes, received from a packet boundary, never meets a full TFIFO. -/
def Obligations.AdmittedPacketNeverOverruns : Prop :=
  ∀ (k : Nat) (s : State), s.cfg.outSide = .outep → s.Inv → s.regs.tf.nS = 0 → s.regs.bd.holdValid = false →
    s.outClean k → s.count State.verdict k = 0 → (s.collect State.byteReceived k).length ≤ s.cfg.outMps →
    (State.after k s).openTick.mf7 = false

/-- R194: with `BUF_DEPTH = 2 × MPS`, a DATA packet with the expected PID is ACKed and flips the toggle while at most one
packet's worth of bytes is committed and undrained, and is NAKed with the toggle unchanged while more is. -/
def Obligations.DoubleBuffering : Prop :=
  ∀ s : State, s.outLive → s.cfg.outSide = .outep → s.cfg.bufDepth = 2 * s.cfg.outMps →
    s.openTick.inp.rst = false → s.openTick.outTickFault = none →
    s.openTick.dataRespReq = true → s.openTick.expectedPidMatch = true →
    ∃ t, step s = .next t ∧
      (s.regs.tf.nC ≤ s.cfg.outMps → t.out.outp.hsAck = true ∧ t.out.outp.hsNak = false ∧
        t.regs.expectedDataToggle = !s.regs.expectedDataToggle) ∧
      (s.cfg.outMps < s.regs.tf.nC → t.out.outp.hsAck = false ∧ t.out.outp.hsNak = true ∧
        t.regs.expectedDataToggle = s.regs.expectedDataToggle)

/-- R195: a valid zero-length packet with the expected PID and room is ACKed and flips the toggle; its commit commits an
empty run; no byte and no mark joins the consumer's stream. -/
def Obligations.ZeroLengthPacketIsInvisible : Prop :=
  ∀ s : State, s.outLive → s.cfg.outSide = .outep → s.Inv → s.openTick.inp.rst = false → s.openTick.outTickFault = none →
    s.regs.bd.holdValid = false → s.regs.tf.nS = 0 → s.openTick.inp.rxComplete = true →
    s.openTick.dataRespReq = true → s.openTick.okayToReceive = true →
    ∃ t, step s = .next t ∧ t.out.outp.hsAck = true ∧ t.out.bd.bdNext = false ∧
      t.regs.expectedDataToggle = !s.regs.expectedDataToggle ∧ t.regs.tf.nS = 0 ∧ t.regs.tf.mem = s.regs.tf.mem ∧
      s.openTick.takenByConsumer ++ t.queue.unread = s.queue.unread

/-- R47, R70: two OUTEP states that differ in their runs alone (how many entries, and whatever `mem` holds outside the
committed range) show the consumer the same outputs. Where nothing committed is unread, that the unspecified data (U6)
agrees too is the model's choice of one free value per tick count (log 7), hence the premise on `draws`. -/
def Obligations.UncommittedRunIsInvisible : Prop :=
  ∀ s s' : State, s'.cfg = s.cfg → s.cfg.outSide = .outep → s'.draws = s.draws →
    s'.regs.tf.crp = s.regs.tf.crp → s'.regs.tf.nRc = s.regs.tf.nRc → s'.regs.tf.nC = s.regs.tf.nC →
    (∀ k < s.regs.tf.nC, readMem s'.regs.tf.mem ((s.regs.tf.crp + k) % s.cfg.bufDepth) =
      readMem s.regs.tf.mem ((s.regs.tf.crp + k) % s.cfg.bufDepth)) →
    s'.openTick.out.outp = s.openTick.out.outp

/-- R49, R278, R293: the OUT instance and the IN instance share the transaction layer's inputs and nothing else: what a
step leaves of one does not depend on the registers or the recorded fault of the other, nor on the other's `rst`. That
unspecified outputs agree too is the model's choice of one free value per tick count (log 7), hence the premise on
`draws`; that two instances stand in one machine is log 2. -/
def Obligations.InstancesAreIndependent : Prop :=
  (∀ s s' : State, s'.cfg = s.cfg → s'.inp = s.inp → s'.script = s.script → s'.draws = s.draws →
    (s.sameOut s' → s.afterStep.sameOut s'.afterStep) ∧ (s.sameIn s' → s.afterStep.sameIn s'.afterStep)) ∧
  (∀ (s : State) (l : Line) (ls : List Line) (b : Bool),
    State.sameOut { s with script := l :: ls }.afterStep { s with script := { l with inRst := b } :: ls }.afterStep ∧
    State.sameIn { s with script := l :: ls }.afterStep { s with script := { l with rst := b } :: ls }.afterStep)

/-! ## Offers are held -/

/-- R186, R215: an offer to the consumer that it does not take, and an offer to the transmitter that it does not take,
stand unchanged in the next tick (unless a reset tick of the instance comes between). -/
def Obligations.OffersAreHeld : Prop :=
  (∀ s : State, s.Inv → s.outLive → s.openTick.inp.rst = false → s.cfg.outSide = .outep →
    s.openTick.out.outp.sValid = true → s.openTick.inp.sReady = false →
    s.afterStep.openTick.out.outp = s.openTick.out.outp) ∧
  (∀ s : State, s.Inv → s.inLive → s.openTick.inp.inRst = false →
    s.openTick.out.inp.txValid = true → s.openTick.inp.txReady = false →
    let t := s.afterStep
    t.openTick.out.inp.txValid = true ∧ t.openTick.out.inp.txData = s.openTick.out.inp.txData ∧
      t.openTick.out.inp.txFirst = s.openTick.out.inp.txFirst ∧ t.openTick.out.inp.txLast = s.openTick.out.inp.txLast ∧
      t.openTick.out.inp.txPidToggle = s.openTick.out.inp.txPidToggle)

/-! ## The IN side -/

/-- R203-R206, R216, R62: in every tick the packet in `pbuf` is the one before, with the transferred byte at its end, or
emptied by an honoured ACK of it. -/
def Obligations.PacketIsFilledInOrder : Prop :=
  ∀ s : State, s.inLive → s.Inv → s.openTick.inp.inRst = false → s.openTick.inTickFault = none →
    let u := s.openTick
    ∃ t, step s = .next t ∧
      t.regs.inep.packet =
        if u.inp.hsInAck = true ∧ u.ackMatch = true then []
        else s.regs.inep.packet ++ (if u.xferP = true then [u.inepIn.data] else [])

/-- R208, R219: a targeted IN token while a packet is staged starts the whole packet from its first byte, with the same
PID, whether it was sent before or not. R212-R214, R220: what the transmitter takes, followed by what is still unsent,
is what was unsent, however `tx_ready` and the token move, until the next answered token. -/
def Obligations.TransmissionSendsThePacket : Prop :=
  (∀ s : State, s.inLive → s.Inv → s.openTick.inp.inRst = false → s.openTick.inTickFault = none →
    s.openTick.tokenAnswered = true → s.regs.inep.staged = true →
    ∃ t, step s = .next t ∧ t.regs.inep.unsent = s.regs.inep.packet ∧ t.regs.inep.packet = s.regs.inep.packet ∧
      t.regs.inep.inToggle = s.regs.inep.inToggle ∧ t.regs.inep.txActive = true) ∧
  (∀ (k : Nat) (s : State), s.Inv → s.inClean k → s.count State.tokenAnswered k = 0 →
    s.collect State.sentNow k ++ (State.after k s).regs.inep.unsent = s.regs.inep.unsent)

/-- R206, R217, R223: a zero-length packet is owed from the tick in which a byte that fills the packet ends the transfer
until the tick in which its own ACK is honoured, and in no other tick. -/
def Obligations.ZlpIsOwedAfterFullLastPacket : Prop :=
  ∀ s : State, s.inLive → s.Inv → s.openTick.inp.inRst = false → s.openTick.inTickFault = none →
    let u := s.openTick
    ∃ t, step s = .next t ∧
      (t.regs.inep.zlpPending = true ↔
        ((s.regs.inep.zlpPending = true ∧
            ¬ (u.inp.hsInAck = true ∧ u.ackMatch = true ∧ s.regs.inep.staged = false)) ∨
          (u.xferP = true ∧ u.inepIn.last = true ∧ s.regs.inep.fillLen + 1 = s.cfg.inMps)))

/-- R224: after N honoured ACKs the toggle is the initial one XOR N mod 2; from reset, N mod 2. -/
def Obligations.InToggleCountsAcks : Prop :=
  ∀ (k : Nat) (s : State), s.inClean k →
    (State.after k s).regs.inep.inToggle =
      (s.regs.inep.inToggle ^^ decide (s.count State.honoursAck k % 2 = 1))

/-- R250, R251, R64: over any ticks of MBIN without reset or fault, the bytes it owed followed by the bytes of the words
it took (least significant first, `first` on byte 0 of a word marked first alone, `last` on the final byte of a word
marked last alone) are the bytes it handed on, with their marks, followed by those it still owes. -/
def Obligations.MbinHandsOnEveryByteInOrder : Prop :=
  ∀ (k : Nat) (s : State), s.cfg.inSide = .mbin → s.Inv → s.inClean k →
    s.regs.mb.owed s.cfg.wordBytes ++ s.collect State.wordTaken k =
      s.collect State.byteHanded k ++ (State.after k s).regs.mb.owed s.cfg.wordBytes

/-! ## Runs that keep the duties -/

/-- R297, R270, R300 (which runs keep the duties is the model's monitor, log 18): a run in which every tick keeps the
duties of the surrounding agents takes no model fault, in either instance. -/
def Obligations.DutifulRunsTakeNoFault : Prop :=
  ∀ (k : Nat) (s : State), s.Inv → s.cfg.outSide = .outep → s.regs.tf.nS = 0 → s.regs.bd.holdValid = false →
    s.outFault = none → s.inFault = none → s.dutiful k →
    (State.after k s).outFault = none ∧ (State.after k s).inFault = none
end

