-- ==== Sys2Proof/Laws/State.lean ====
section
/-! SUPPORT. What each named update of the state does to each field: one lemma per field per update, each true by rfl. -/

namespace Sys2Proof.Machine

/-! ### `State.schedTf` -/

@[simp] theorem State.schedTf_cfg (f : Tfifo → Tfifo) (s : State) : (s.schedTf f).cfg = s.cfg := rfl
@[simp] theorem State.schedTf_regs (f : Tfifo → Tfifo) (s : State) : (s.schedTf f).regs = s.regs := rfl
@[simp] theorem State.schedTf_inp (f : Tfifo → Tfifo) (s : State) : (s.schedTf f).inp = s.inp := rfl
@[simp] theorem State.schedTf_script (f : Tfifo → Tfifo) (s : State) : (s.schedTf f).script = s.script := rfl
@[simp] theorem State.schedTf_draws (f : Tfifo → Tfifo) (s : State) : (s.schedTf f).draws = s.draws := rfl
@[simp] theorem State.schedTf_outFault (f : Tfifo → Tfifo) (s : State) : (s.schedTf f).outFault = s.outFault := rfl
@[simp] theorem State.schedTf_inFault (f : Tfifo → Tfifo) (s : State) : (s.schedTf f).inFault = s.inFault := rfl
@[simp] theorem State.schedTf_out (f : Tfifo → Tfifo) (s : State) : (s.schedTf f).out = s.out := rfl
@[simp] theorem State.schedTf_nxt_tf (f : Tfifo → Tfifo) (s : State) : (s.schedTf f).nxt.tf = f s.nxt.tf := rfl
@[simp] theorem State.schedTf_nxt_bd (f : Tfifo → Tfifo) (s : State) : (s.schedTf f).nxt.bd = s.nxt.bd := rfl
@[simp] theorem State.schedTf_nxt_expectedDataToggle (f : Tfifo → Tfifo) (s : State) : (s.schedTf f).nxt.expectedDataToggle = s.nxt.expectedDataToggle := rfl
@[simp] theorem State.schedTf_nxt_inep (f : Tfifo → Tfifo) (s : State) : (s.schedTf f).nxt.inep = s.nxt.inep := rfl
@[simp] theorem State.schedTf_nxt_mb (f : Tfifo → Tfifo) (s : State) : (s.schedTf f).nxt.mb = s.nxt.mb := rfl

/-! ### `State.schedBd` -/

@[simp] theorem State.schedBd_cfg (f : Bd → Bd) (s : State) : (s.schedBd f).cfg = s.cfg := rfl
@[simp] theorem State.schedBd_regs (f : Bd → Bd) (s : State) : (s.schedBd f).regs = s.regs := rfl
@[simp] theorem State.schedBd_inp (f : Bd → Bd) (s : State) : (s.schedBd f).inp = s.inp := rfl
@[simp] theorem State.schedBd_script (f : Bd → Bd) (s : State) : (s.schedBd f).script = s.script := rfl
@[simp] theorem State.schedBd_draws (f : Bd → Bd) (s : State) : (s.schedBd f).draws = s.draws := rfl
@[simp] theorem State.schedBd_outFault (f : Bd → Bd) (s : State) : (s.schedBd f).outFault = s.outFault := rfl
@[simp] theorem State.schedBd_inFault (f : Bd → Bd) (s : State) : (s.schedBd f).inFault = s.inFault := rfl
@[simp] theorem State.schedBd_out (f : Bd → Bd) (s : State) : (s.schedBd f).out = s.out := rfl
@[simp] theorem State.schedBd_nxt_tf (f : Bd → Bd) (s : State) : (s.schedBd f).nxt.tf = s.nxt.tf := rfl
@[simp] theorem State.schedBd_nxt_bd (f : Bd → Bd) (s : State) : (s.schedBd f).nxt.bd = f s.nxt.bd := rfl
@[simp] theorem State.schedBd_nxt_expectedDataToggle (f : Bd → Bd) (s : State) : (s.schedBd f).nxt.expectedDataToggle = s.nxt.expectedDataToggle := rfl
@[simp] theorem State.schedBd_nxt_inep (f : Bd → Bd) (s : State) : (s.schedBd f).nxt.inep = s.nxt.inep := rfl
@[simp] theorem State.schedBd_nxt_mb (f : Bd → Bd) (s : State) : (s.schedBd f).nxt.mb = s.nxt.mb := rfl

/-! ### `State.schedToggle` -/

@[simp] theorem State.schedToggle_cfg (b : Bool) (s : State) : (s.schedToggle b).cfg = s.cfg := rfl
@[simp] theorem State.schedToggle_regs (b : Bool) (s : State) : (s.schedToggle b).regs = s.regs := rfl
@[simp] theorem State.schedToggle_inp (b : Bool) (s : State) : (s.schedToggle b).inp = s.inp := rfl
@[simp] theorem State.schedToggle_script (b : Bool) (s : State) : (s.schedToggle b).script = s.script := rfl
@[simp] theorem State.schedToggle_draws (b : Bool) (s : State) : (s.schedToggle b).draws = s.draws := rfl
@[simp] theorem State.schedToggle_outFault (b : Bool) (s : State) : (s.schedToggle b).outFault = s.outFault := rfl
@[simp] theorem State.schedToggle_inFault (b : Bool) (s : State) : (s.schedToggle b).inFault = s.inFault := rfl
@[simp] theorem State.schedToggle_out (b : Bool) (s : State) : (s.schedToggle b).out = s.out := rfl
@[simp] theorem State.schedToggle_nxt_tf (b : Bool) (s : State) : (s.schedToggle b).nxt.tf = s.nxt.tf := rfl
@[simp] theorem State.schedToggle_nxt_bd (b : Bool) (s : State) : (s.schedToggle b).nxt.bd = s.nxt.bd := rfl
@[simp] theorem State.schedToggle_nxt_expectedDataToggle (b : Bool) (s : State) : (s.schedToggle b).nxt.expectedDataToggle = b := rfl
@[simp] theorem State.schedToggle_nxt_inep (b : Bool) (s : State) : (s.schedToggle b).nxt.inep = s.nxt.inep := rfl
@[simp] theorem State.schedToggle_nxt_mb (b : Bool) (s : State) : (s.schedToggle b).nxt.mb = s.nxt.mb := rfl

/-! ### `State.schedInep` -/

@[simp] theorem State.schedInep_cfg (f : Inep → Inep) (s : State) : (s.schedInep f).cfg = s.cfg := rfl
@[simp] theorem State.schedInep_regs (f : Inep → Inep) (s : State) : (s.schedInep f).regs = s.regs := rfl
@[simp] theorem State.schedInep_inp (f : Inep → Inep) (s : State) : (s.schedInep f).inp = s.inp := rfl
@[simp] theorem State.schedInep_script (f : Inep → Inep) (s : State) : (s.schedInep f).script = s.script := rfl
@[simp] theorem State.schedInep_draws (f : Inep → Inep) (s : State) : (s.schedInep f).draws = s.draws := rfl
@[simp] theorem State.schedInep_outFault (f : Inep → Inep) (s : State) : (s.schedInep f).outFault = s.outFault := rfl
@[simp] theorem State.schedInep_inFault (f : Inep → Inep) (s : State) : (s.schedInep f).inFault = s.inFault := rfl
@[simp] theorem State.schedInep_out (f : Inep → Inep) (s : State) : (s.schedInep f).out = s.out := rfl
@[simp] theorem State.schedInep_nxt_tf (f : Inep → Inep) (s : State) : (s.schedInep f).nxt.tf = s.nxt.tf := rfl
@[simp] theorem State.schedInep_nxt_bd (f : Inep → Inep) (s : State) : (s.schedInep f).nxt.bd = s.nxt.bd := rfl
@[simp] theorem State.schedInep_nxt_expectedDataToggle (f : Inep → Inep) (s : State) : (s.schedInep f).nxt.expectedDataToggle = s.nxt.expectedDataToggle := rfl
@[simp] theorem State.schedInep_nxt_inep (f : Inep → Inep) (s : State) : (s.schedInep f).nxt.inep = f s.nxt.inep := rfl
@[simp] theorem State.schedInep_nxt_mb (f : Inep → Inep) (s : State) : (s.schedInep f).nxt.mb = s.nxt.mb := rfl

/-! ### `State.schedMb` -/

@[simp] theorem State.schedMb_cfg (f : Mbin → Mbin) (s : State) : (s.schedMb f).cfg = s.cfg := rfl
@[simp] theorem State.schedMb_regs (f : Mbin → Mbin) (s : State) : (s.schedMb f).regs = s.regs := rfl
@[simp] theorem State.schedMb_inp (f : Mbin → Mbin) (s : State) : (s.schedMb f).inp = s.inp := rfl
@[simp] theorem State.schedMb_script (f : Mbin → Mbin) (s : State) : (s.schedMb f).script = s.script := rfl
@[simp] theorem State.schedMb_draws (f : Mbin → Mbin) (s : State) : (s.schedMb f).draws = s.draws := rfl
@[simp] theorem State.schedMb_outFault (f : Mbin → Mbin) (s : State) : (s.schedMb f).outFault = s.outFault := rfl
@[simp] theorem State.schedMb_inFault (f : Mbin → Mbin) (s : State) : (s.schedMb f).inFault = s.inFault := rfl
@[simp] theorem State.schedMb_out (f : Mbin → Mbin) (s : State) : (s.schedMb f).out = s.out := rfl
@[simp] theorem State.schedMb_nxt_tf (f : Mbin → Mbin) (s : State) : (s.schedMb f).nxt.tf = s.nxt.tf := rfl
@[simp] theorem State.schedMb_nxt_bd (f : Mbin → Mbin) (s : State) : (s.schedMb f).nxt.bd = s.nxt.bd := rfl
@[simp] theorem State.schedMb_nxt_expectedDataToggle (f : Mbin → Mbin) (s : State) : (s.schedMb f).nxt.expectedDataToggle = s.nxt.expectedDataToggle := rfl
@[simp] theorem State.schedMb_nxt_inep (f : Mbin → Mbin) (s : State) : (s.schedMb f).nxt.inep = s.nxt.inep := rfl
@[simp] theorem State.schedMb_nxt_mb (f : Mbin → Mbin) (s : State) : (s.schedMb f).nxt.mb = f s.nxt.mb := rfl

/-! ### `State.driveTf` -/

@[simp] theorem State.driveTf_cfg (f : TfPorts → TfPorts) (s : State) : (s.driveTf f).cfg = s.cfg := rfl
@[simp] theorem State.driveTf_regs (f : TfPorts → TfPorts) (s : State) : (s.driveTf f).regs = s.regs := rfl
@[simp] theorem State.driveTf_inp (f : TfPorts → TfPorts) (s : State) : (s.driveTf f).inp = s.inp := rfl
@[simp] theorem State.driveTf_script (f : TfPorts → TfPorts) (s : State) : (s.driveTf f).script = s.script := rfl
@[simp] theorem State.driveTf_draws (f : TfPorts → TfPorts) (s : State) : (s.driveTf f).draws = s.draws := rfl
@[simp] theorem State.driveTf_outFault (f : TfPorts → TfPorts) (s : State) : (s.driveTf f).outFault = s.outFault := rfl
@[simp] theorem State.driveTf_inFault (f : TfPorts → TfPorts) (s : State) : (s.driveTf f).inFault = s.inFault := rfl
@[simp] theorem State.driveTf_nxt (f : TfPorts → TfPorts) (s : State) : (s.driveTf f).nxt = s.nxt := rfl
@[simp] theorem State.driveTf_out_tf (f : TfPorts → TfPorts) (s : State) : (s.driveTf f).out.tf = f s.out.tf := rfl
@[simp] theorem State.driveTf_out_bd (f : TfPorts → TfPorts) (s : State) : (s.driveTf f).out.bd = s.out.bd := rfl
@[simp] theorem State.driveTf_out_outp (f : TfPorts → TfPorts) (s : State) : (s.driveTf f).out.outp = s.out.outp := rfl
@[simp] theorem State.driveTf_out_inp (f : TfPorts → TfPorts) (s : State) : (s.driveTf f).out.inp = s.out.inp := rfl
@[simp] theorem State.driveTf_out_mb (f : TfPorts → TfPorts) (s : State) : (s.driveTf f).out.mb = s.out.mb := rfl

/-! ### `State.driveBd` -/

@[simp] theorem State.driveBd_cfg (f : BdPorts → BdPorts) (s : State) : (s.driveBd f).cfg = s.cfg := rfl
@[simp] theorem State.driveBd_regs (f : BdPorts → BdPorts) (s : State) : (s.driveBd f).regs = s.regs := rfl
@[simp] theorem State.driveBd_inp (f : BdPorts → BdPorts) (s : State) : (s.driveBd f).inp = s.inp := rfl
@[simp] theorem State.driveBd_script (f : BdPorts → BdPorts) (s : State) : (s.driveBd f).script = s.script := rfl
@[simp] theorem State.driveBd_draws (f : BdPorts → BdPorts) (s : State) : (s.driveBd f).draws = s.draws := rfl
@[simp] theorem State.driveBd_outFault (f : BdPorts → BdPorts) (s : State) : (s.driveBd f).outFault = s.outFault := rfl
@[simp] theorem State.driveBd_inFault (f : BdPorts → BdPorts) (s : State) : (s.driveBd f).inFault = s.inFault := rfl
@[simp] theorem State.driveBd_nxt (f : BdPorts → BdPorts) (s : State) : (s.driveBd f).nxt = s.nxt := rfl
@[simp] theorem State.driveBd_out_tf (f : BdPorts → BdPorts) (s : State) : (s.driveBd f).out.tf = s.out.tf := rfl
@[simp] theorem State.driveBd_out_bd (f : BdPorts → BdPorts) (s : State) : (s.driveBd f).out.bd = f s.out.bd := rfl
@[simp] theorem State.driveBd_out_outp (f : BdPorts → BdPorts) (s : State) : (s.driveBd f).out.outp = s.out.outp := rfl
@[simp] theorem State.driveBd_out_inp (f : BdPorts → BdPorts) (s : State) : (s.driveBd f).out.inp = s.out.inp := rfl
@[simp] theorem State.driveBd_out_mb (f : BdPorts → BdPorts) (s : State) : (s.driveBd f).out.mb = s.out.mb := rfl

/-! ### `State.driveOut` -/

@[simp] theorem State.driveOut_cfg (f : OutPorts → OutPorts) (s : State) : (s.driveOut f).cfg = s.cfg := rfl
@[simp] theorem State.driveOut_regs (f : OutPorts → OutPorts) (s : State) : (s.driveOut f).regs = s.regs := rfl
@[simp] theorem State.driveOut_inp (f : OutPorts → OutPorts) (s : State) : (s.driveOut f).inp = s.inp := rfl
@[simp] theorem State.driveOut_script (f : OutPorts → OutPorts) (s : State) : (s.driveOut f).script = s.script := rfl
@[simp] theorem State.driveOut_draws (f : OutPorts → OutPorts) (s : State) : (s.driveOut f).draws = s.draws := rfl
@[simp] theorem State.driveOut_outFault (f : OutPorts → OutPorts) (s : State) : (s.driveOut f).outFault = s.outFault := rfl
@[simp] theorem State.driveOut_inFault (f : OutPorts → OutPorts) (s : State) : (s.driveOut f).inFault = s.inFault := rfl
@[simp] theorem State.driveOut_nxt (f : OutPorts → OutPorts) (s : State) : (s.driveOut f).nxt = s.nxt := rfl
@[simp] theorem State.driveOut_out_tf (f : OutPorts → OutPorts) (s : State) : (s.driveOut f).out.tf = s.out.tf := rfl
@[simp] theorem State.driveOut_out_bd (f : OutPorts → OutPorts) (s : State) : (s.driveOut f).out.bd = s.out.bd := rfl
@[simp] theorem State.driveOut_out_outp (f : OutPorts → OutPorts) (s : State) : (s.driveOut f).out.outp = f s.out.outp := rfl
@[simp] theorem State.driveOut_out_inp (f : OutPorts → OutPorts) (s : State) : (s.driveOut f).out.inp = s.out.inp := rfl
@[simp] theorem State.driveOut_out_mb (f : OutPorts → OutPorts) (s : State) : (s.driveOut f).out.mb = s.out.mb := rfl

/-! ### `State.driveIn` -/

@[simp] theorem State.driveIn_cfg (f : InPorts → InPorts) (s : State) : (s.driveIn f).cfg = s.cfg := rfl
@[simp] theorem State.driveIn_regs (f : InPorts → InPorts) (s : State) : (s.driveIn f).regs = s.regs := rfl
@[simp] theorem State.driveIn_inp (f : InPorts → InPorts) (s : State) : (s.driveIn f).inp = s.inp := rfl
@[simp] theorem State.driveIn_script (f : InPorts → InPorts) (s : State) : (s.driveIn f).script = s.script := rfl
@[simp] theorem State.driveIn_draws (f : InPorts → InPorts) (s : State) : (s.driveIn f).draws = s.draws := rfl
@[simp] theorem State.driveIn_outFault (f : InPorts → InPorts) (s : State) : (s.driveIn f).outFault = s.outFault := rfl
@[simp] theorem State.driveIn_inFault (f : InPorts → InPorts) (s : State) : (s.driveIn f).inFault = s.inFault := rfl
@[simp] theorem State.driveIn_nxt (f : InPorts → InPorts) (s : State) : (s.driveIn f).nxt = s.nxt := rfl
@[simp] theorem State.driveIn_out_tf (f : InPorts → InPorts) (s : State) : (s.driveIn f).out.tf = s.out.tf := rfl
@[simp] theorem State.driveIn_out_bd (f : InPorts → InPorts) (s : State) : (s.driveIn f).out.bd = s.out.bd := rfl
@[simp] theorem State.driveIn_out_outp (f : InPorts → InPorts) (s : State) : (s.driveIn f).out.outp = s.out.outp := rfl
@[simp] theorem State.driveIn_out_inp (f : InPorts → InPorts) (s : State) : (s.driveIn f).out.inp = f s.out.inp := rfl
@[simp] theorem State.driveIn_out_mb (f : InPorts → InPorts) (s : State) : (s.driveIn f).out.mb = s.out.mb := rfl

/-! ### `State.driveMb` -/

@[simp] theorem State.driveMb_cfg (f : MbPorts → MbPorts) (s : State) : (s.driveMb f).cfg = s.cfg := rfl
@[simp] theorem State.driveMb_regs (f : MbPorts → MbPorts) (s : State) : (s.driveMb f).regs = s.regs := rfl
@[simp] theorem State.driveMb_inp (f : MbPorts → MbPorts) (s : State) : (s.driveMb f).inp = s.inp := rfl
@[simp] theorem State.driveMb_script (f : MbPorts → MbPorts) (s : State) : (s.driveMb f).script = s.script := rfl
@[simp] theorem State.driveMb_draws (f : MbPorts → MbPorts) (s : State) : (s.driveMb f).draws = s.draws := rfl
@[simp] theorem State.driveMb_outFault (f : MbPorts → MbPorts) (s : State) : (s.driveMb f).outFault = s.outFault := rfl
@[simp] theorem State.driveMb_inFault (f : MbPorts → MbPorts) (s : State) : (s.driveMb f).inFault = s.inFault := rfl
@[simp] theorem State.driveMb_nxt (f : MbPorts → MbPorts) (s : State) : (s.driveMb f).nxt = s.nxt := rfl
@[simp] theorem State.driveMb_out_tf (f : MbPorts → MbPorts) (s : State) : (s.driveMb f).out.tf = s.out.tf := rfl
@[simp] theorem State.driveMb_out_bd (f : MbPorts → MbPorts) (s : State) : (s.driveMb f).out.bd = s.out.bd := rfl
@[simp] theorem State.driveMb_out_outp (f : MbPorts → MbPorts) (s : State) : (s.driveMb f).out.outp = s.out.outp := rfl
@[simp] theorem State.driveMb_out_inp (f : MbPorts → MbPorts) (s : State) : (s.driveMb f).out.inp = s.out.inp := rfl
@[simp] theorem State.driveMb_out_mb (f : MbPorts → MbPorts) (s : State) : (s.driveMb f).out.mb = f s.out.mb := rfl

/-! ### Outcomes -/

@[simp] theorem andThen_next (s : State) (g : State → Result) : andThen (.next s) g = g s := rfl
@[simp] theorem andThen_fault (f : Fault) (g : State → Result) : andThen (.fault f) g = .fault f := rfl
@[simp] theorem andThen_refused (r : Refusal) (g : State → Result) : andThen (.refused r) g = .refused r := rfl
@[simp] theorem raise_eq (f : Fault) : raise f = .fault f := rfl
@[simp] theorem unlessFault_true (f : Fault) (s : State) : unlessFault true f s = .fault f := rfl
@[simp] theorem unlessFault_false (f : Fault) (s : State) : unlessFault false f s = .next s := rfl

/-- When a guarded row answers a next state: its condition does not hold, and the state is the guarded one. -/
theorem unlessFault_next {c : Bool} {f : Fault} {s t : State} (h : unlessFault c f s = .next t) : c = false ∧ t = s := by
  cases c
  · exact ⟨rfl, by simpa using h.symm⟩
  · cases h

/-- When a sequence answers a next state, its first part does, and the second part from there. -/
theorem andThen_eq_next {r : Result} {g : State → Result} {t : State} (h : andThen r g = .next t) :
    ∃ s, r = .next s ∧ g s = .next t := by
  cases r with
  | next s => exact ⟨s, rfl, h⟩
  | fault f => cases h
  | refused q => cases h


/-! ### Recording a fault, taking an instance's part -/

-- `State.recordOut`
@[simp] theorem State.recordOut_cfg (f : Fault) (s : State) : (State.recordOut f s).cfg = s.cfg := rfl
@[simp] theorem State.recordOut_inp (f : Fault) (s : State) : (State.recordOut f s).inp = s.inp := rfl
@[simp] theorem State.recordOut_script (f : Fault) (s : State) : (State.recordOut f s).script = s.script := rfl
@[simp] theorem State.recordOut_draws (f : Fault) (s : State) : (State.recordOut f s).draws = s.draws := rfl
@[simp] theorem State.recordOut_outFault (f : Fault) (s : State) : (State.recordOut f s).outFault = some f := rfl
@[simp] theorem State.recordOut_inFault (f : Fault) (s : State) : (State.recordOut f s).inFault = s.inFault := rfl
@[simp] theorem State.recordOut_regs_tf (f : Fault) (s : State) : (State.recordOut f s).regs.tf = s.regs.tf := rfl
@[simp] theorem State.recordOut_regs_bd (f : Fault) (s : State) : (State.recordOut f s).regs.bd = s.regs.bd := rfl
@[simp] theorem State.recordOut_regs_expectedDataToggle (f : Fault) (s : State) : (State.recordOut f s).regs.expectedDataToggle = s.regs.expectedDataToggle := rfl
@[simp] theorem State.recordOut_regs_inep (f : Fault) (s : State) : (State.recordOut f s).regs.inep = s.regs.inep := rfl
@[simp] theorem State.recordOut_regs_mb (f : Fault) (s : State) : (State.recordOut f s).regs.mb = s.regs.mb := rfl
@[simp] theorem State.recordOut_out_tf (f : Fault) (s : State) : (State.recordOut f s).out.tf = s.out.tf := rfl
@[simp] theorem State.recordOut_out_bd (f : Fault) (s : State) : (State.recordOut f s).out.bd = s.out.bd := rfl
@[simp] theorem State.recordOut_out_outp (f : Fault) (s : State) : (State.recordOut f s).out.outp = s.out.outp := rfl
@[simp] theorem State.recordOut_out_inp (f : Fault) (s : State) : (State.recordOut f s).out.inp = s.out.inp := rfl
@[simp] theorem State.recordOut_out_mb (f : Fault) (s : State) : (State.recordOut f s).out.mb = s.out.mb := rfl

-- `State.recordIn`
@[simp] theorem State.recordIn_cfg (f : Fault) (s : State) : (State.recordIn f s).cfg = s.cfg := rfl
@[simp] theorem State.recordIn_inp (f : Fault) (s : State) : (State.recordIn f s).inp = s.inp := rfl
@[simp] theorem State.recordIn_script (f : Fault) (s : State) : (State.recordIn f s).script = s.script := rfl
@[simp] theorem State.recordIn_draws (f : Fault) (s : State) : (State.recordIn f s).draws = s.draws := rfl
@[simp] theorem State.recordIn_outFault (f : Fault) (s : State) : (State.recordIn f s).outFault = s.outFault := rfl
@[simp] theorem State.recordIn_inFault (f : Fault) (s : State) : (State.recordIn f s).inFault = some f := rfl
@[simp] theorem State.recordIn_regs_tf (f : Fault) (s : State) : (State.recordIn f s).regs.tf = s.regs.tf := rfl
@[simp] theorem State.recordIn_regs_bd (f : Fault) (s : State) : (State.recordIn f s).regs.bd = s.regs.bd := rfl
@[simp] theorem State.recordIn_regs_expectedDataToggle (f : Fault) (s : State) : (State.recordIn f s).regs.expectedDataToggle = s.regs.expectedDataToggle := rfl
@[simp] theorem State.recordIn_regs_inep (f : Fault) (s : State) : (State.recordIn f s).regs.inep = s.regs.inep := rfl
@[simp] theorem State.recordIn_regs_mb (f : Fault) (s : State) : (State.recordIn f s).regs.mb = s.regs.mb := rfl
@[simp] theorem State.recordIn_out_tf (f : Fault) (s : State) : (State.recordIn f s).out.tf = s.out.tf := rfl
@[simp] theorem State.recordIn_out_bd (f : Fault) (s : State) : (State.recordIn f s).out.bd = s.out.bd := rfl
@[simp] theorem State.recordIn_out_outp (f : Fault) (s : State) : (State.recordIn f s).out.outp = s.out.outp := rfl
@[simp] theorem State.recordIn_out_inp (f : Fault) (s : State) : (State.recordIn f s).out.inp = s.out.inp := rfl
@[simp] theorem State.recordIn_out_mb (f : Fault) (s : State) : (State.recordIn f s).out.mb = s.out.mb := rfl

-- `State.takeOut`
@[simp] theorem State.takeOut_cfg (s a : State) : (s.takeOut a).cfg = s.cfg := rfl
@[simp] theorem State.takeOut_inp (s a : State) : (s.takeOut a).inp = s.inp := rfl
@[simp] theorem State.takeOut_script (s a : State) : (s.takeOut a).script = s.script := rfl
@[simp] theorem State.takeOut_draws (s a : State) : (s.takeOut a).draws = s.draws := rfl
@[simp] theorem State.takeOut_outFault (s a : State) : (s.takeOut a).outFault = s.outFault := rfl
@[simp] theorem State.takeOut_inFault (s a : State) : (s.takeOut a).inFault = s.inFault := rfl
@[simp] theorem State.takeOut_regs_tf (s a : State) : (s.takeOut a).regs.tf = a.regs.tf := rfl
@[simp] theorem State.takeOut_regs_bd (s a : State) : (s.takeOut a).regs.bd = a.regs.bd := rfl
@[simp] theorem State.takeOut_regs_expectedDataToggle (s a : State) : (s.takeOut a).regs.expectedDataToggle = a.regs.expectedDataToggle := rfl
@[simp] theorem State.takeOut_regs_inep (s a : State) : (s.takeOut a).regs.inep = s.regs.inep := rfl
@[simp] theorem State.takeOut_regs_mb (s a : State) : (s.takeOut a).regs.mb = s.regs.mb := rfl
@[simp] theorem State.takeOut_out_tf (s a : State) : (s.takeOut a).out.tf = a.out.tf := rfl
@[simp] theorem State.takeOut_out_bd (s a : State) : (s.takeOut a).out.bd = a.out.bd := rfl
@[simp] theorem State.takeOut_out_outp (s a : State) : (s.takeOut a).out.outp = a.out.outp := rfl
@[simp] theorem State.takeOut_out_inp (s a : State) : (s.takeOut a).out.inp = s.out.inp := rfl
@[simp] theorem State.takeOut_out_mb (s a : State) : (s.takeOut a).out.mb = s.out.mb := rfl

-- `State.takeIn`
@[simp] theorem State.takeIn_cfg (s a : State) : (s.takeIn a).cfg = s.cfg := rfl
@[simp] theorem State.takeIn_inp (s a : State) : (s.takeIn a).inp = s.inp := rfl
@[simp] theorem State.takeIn_script (s a : State) : (s.takeIn a).script = s.script := rfl
@[simp] theorem State.takeIn_draws (s a : State) : (s.takeIn a).draws = s.draws := rfl
@[simp] theorem State.takeIn_outFault (s a : State) : (s.takeIn a).outFault = s.outFault := rfl
@[simp] theorem State.takeIn_inFault (s a : State) : (s.takeIn a).inFault = s.inFault := rfl
@[simp] theorem State.takeIn_regs_tf (s a : State) : (s.takeIn a).regs.tf = s.regs.tf := rfl
@[simp] theorem State.takeIn_regs_bd (s a : State) : (s.takeIn a).regs.bd = s.regs.bd := rfl
@[simp] theorem State.takeIn_regs_expectedDataToggle (s a : State) : (s.takeIn a).regs.expectedDataToggle = s.regs.expectedDataToggle := rfl
@[simp] theorem State.takeIn_regs_inep (s a : State) : (s.takeIn a).regs.inep = a.regs.inep := rfl
@[simp] theorem State.takeIn_regs_mb (s a : State) : (s.takeIn a).regs.mb = a.regs.mb := rfl
@[simp] theorem State.takeIn_out_tf (s a : State) : (s.takeIn a).out.tf = s.out.tf := rfl
@[simp] theorem State.takeIn_out_bd (s a : State) : (s.takeIn a).out.bd = s.out.bd := rfl
@[simp] theorem State.takeIn_out_outp (s a : State) : (s.takeIn a).out.outp = s.out.outp := rfl
@[simp] theorem State.takeIn_out_inp (s a : State) : (s.takeIn a).out.inp = a.out.inp := rfl
@[simp] theorem State.takeIn_out_mb (s a : State) : (s.takeIn a).out.mb = a.out.mb := rfl

-- `State.ticked`
@[simp] theorem State.ticked_cfg (s : State) : s.ticked.cfg = s.cfg := rfl
@[simp] theorem State.ticked_inp (s : State) : s.ticked.inp = s.nextInputs := rfl
@[simp] theorem State.ticked_script (s : State) : s.ticked.script = s.script.tail := rfl
@[simp] theorem State.ticked_draws (s : State) : s.ticked.draws = s.draws + 1 := rfl
@[simp] theorem State.ticked_outFault (s : State) : s.ticked.outFault = s.outFault := rfl
@[simp] theorem State.ticked_inFault (s : State) : s.ticked.inFault = s.inFault := rfl
@[simp] theorem State.ticked_regs_tf (s : State) : s.ticked.regs.tf = s.regs.tf := rfl
@[simp] theorem State.ticked_regs_bd (s : State) : s.ticked.regs.bd = s.regs.bd := rfl
@[simp] theorem State.ticked_regs_expectedDataToggle (s : State) : s.ticked.regs.expectedDataToggle = s.regs.expectedDataToggle := rfl
@[simp] theorem State.ticked_regs_inep (s : State) : s.ticked.regs.inep = s.regs.inep := rfl
@[simp] theorem State.ticked_regs_mb (s : State) : s.ticked.regs.mb = s.regs.mb := rfl
@[simp] theorem State.ticked_out_tf (s : State) : s.ticked.out.tf = s.out.tf := rfl
@[simp] theorem State.ticked_out_bd (s : State) : s.ticked.out.bd = s.out.bd := rfl
@[simp] theorem State.ticked_out_outp (s : State) : s.ticked.out.outp = s.out.outp := rfl
@[simp] theorem State.ticked_out_inp (s : State) : s.ticked.out.inp = s.out.inp := rfl
@[simp] theorem State.ticked_out_mb (s : State) : s.ticked.out.mb = s.out.mb := rfl

-- `State.forIn`
@[simp] theorem State.forIn_cfg (s : State) : s.forIn.cfg = s.cfg := rfl
@[simp] theorem State.forIn_regs (s : State) : s.forIn.regs = s.regs := rfl
@[simp] theorem State.forIn_nxt (s : State) : s.forIn.nxt = s.nxt := rfl
@[simp] theorem State.forIn_out (s : State) : s.forIn.out = s.out := rfl
@[simp] theorem State.forIn_script (s : State) : s.forIn.script = s.script := rfl
@[simp] theorem State.forIn_draws (s : State) : s.forIn.draws = s.draws := rfl
@[simp] theorem State.forIn_outFault (s : State) : s.forIn.outFault = s.outFault := rfl
@[simp] theorem State.forIn_inFault (s : State) : s.forIn.inFault = s.inFault := rfl
@[simp] theorem State.forIn_rst (s : State) : s.forIn.inp.rst = s.inp.inRst := rfl

/-! ### The opening and the boundary of a tick -/

@[simp] theorem State.openTick_cfg (s : State) : s.openTick.cfg = s.cfg := rfl
@[simp] theorem State.openTick_regs (s : State) : s.openTick.regs = s.regs := rfl
@[simp] theorem State.openTick_nxt (s : State) : s.openTick.nxt = s.regs := rfl
@[simp] theorem State.openTick_inp (s : State) : s.openTick.inp = s.nextInputs := rfl
@[simp] theorem State.openTick_out (s : State) : s.openTick.out = presented s.cfg s.regs s.nextInputs s.draws := rfl
@[simp] theorem State.openTick_script (s : State) : s.openTick.script = s.script.tail := rfl
@[simp] theorem State.openTick_draws (s : State) : s.openTick.draws = s.draws := rfl
@[simp] theorem State.openTick_outFault (s : State) : s.openTick.outFault = s.outFault := rfl
@[simp] theorem State.openTick_inFault (s : State) : s.openTick.inFault = s.inFault := rfl
@[simp] theorem State.closeTick_cfg (s : State) : s.closeTick.cfg = s.cfg := rfl
@[simp] theorem State.closeTick_regs (s : State) : s.closeTick.regs = s.nxt := rfl
@[simp] theorem State.closeTick_nxt (s : State) : s.closeTick.nxt = s.nxt := rfl
@[simp] theorem State.closeTick_inp (s : State) : s.closeTick.inp = s.inp := rfl
@[simp] theorem State.closeTick_out (s : State) : s.closeTick.out = s.out := rfl
@[simp] theorem State.closeTick_script (s : State) : s.closeTick.script = s.script := rfl
@[simp] theorem State.closeTick_draws (s : State) : s.closeTick.draws = s.draws + 1 := rfl
@[simp] theorem State.closeTick_outFault (s : State) : s.closeTick.outFault = s.outFault := rfl
@[simp] theorem State.closeTick_inFault (s : State) : s.closeTick.inFault = s.inFault := rfl

end Sys2Proof.Machine
end

