-- ==== Sys2Proof/Laws/Ops.lean ====
section
/-! SUPPORT. The laws of the arrays: a read after a write, and that a write keeps the canonical form and the range; and
the entry layout. -/

namespace Sys2Proof.Machine

/-! ## Arrays -/

/-- What a write lists: the written index holds the value, every other index what it held. -/
theorem Cells.find?_write {α : Type} (m : Cells α) (a b : Nat) (v : α) :
    Cells.find? (Cells.write m a v) b = if b = a then some v else Cells.find? m b := by
  induction m with
  | nil => simp [Cells.write, Cells.find?]
  | cons c m ih =>
    obtain ⟨c, w⟩ := c
    by_cases h1 : a < c
    · simp [Cells.write, h1, Cells.find?]
    · by_cases h2 : a = c
      · subst h2
        by_cases hb : b = a <;> simp [Cells.write, Cells.find?, hb]
      · simp only [Cells.write, h1, h2, if_false, Cells.find?, ih]
        by_cases hb : b = c
        · subst hb
          simp [Ne.symm h2]
        · simp [hb]

/-- Writing keeps the indices rising. -/
theorem Cells.risesFrom_write {α : Type} (m : Cells α) (lo a : Nat) (v : α) (hlo : lo ≤ a)
    (h : Cells.risesFrom lo m = true) : Cells.risesFrom lo (Cells.write m a v) = true := by
  induction m generalizing lo with
  | nil => simp [Cells.write, Cells.risesFrom, hlo]
  | cons c m ih =>
    obtain ⟨c, w⟩ := c
    simp only [Cells.risesFrom, Bool.and_eq_true, decide_eq_true_eq] at h
    by_cases h1 : a < c
    · have : a + 1 ≤ c := h1
      simp [Cells.write, h1, Cells.risesFrom, hlo, this, h.2]
    · by_cases h2 : a = c
      · subst h2
        simp [Cells.write, Cells.risesFrom, hlo, h.2]
      · have h3 : c + 1 ≤ a := by omega
        simp only [Cells.write, h1, h2, if_false, Cells.risesFrom, Bool.and_eq_true, decide_eq_true_eq]
        exact ⟨h.1, ih (c + 1) h3 h.2⟩

/-- Every write keeps the canonical form. -/
theorem Memory.wf_write {α : Type} (m : Cells α) (a : Nat) (v : α) (h : Memory.wf m = true) :
    Memory.wf (Cells.write m a v) = true :=
  Cells.risesFrom_write m 0 a v (Nat.zero_le a) h

/-- A write below `n` keeps every index below `n`. -/
theorem Cells.below_write {α : Type} (n : Nat) (m : Cells α) (a : Nat) (v : α) (ha : a < n)
    (h : Cells.below n m = true) : Cells.below n (Cells.write m a v) = true := by
  induction m with
  | nil => simp [Cells.write, Cells.below, ha]
  | cons c m ih =>
    obtain ⟨c, w⟩ := c
    simp only [Cells.below, List.all_cons, Bool.and_eq_true, decide_eq_true_eq] at h ih ⊢
    by_cases h1 : a < c
    · simp [Cells.write, h1, ha, h.1, h.2]
    · by_cases h2 : a = c
      · simp [Cells.write, h2, h.1, h.2]
      · simp only [Cells.write, h1, h2, if_false, List.all_cons, Bool.and_eq_true, decide_eq_true_eq]
        exact ⟨h.1, ih h.2⟩

/-- The empty array is in canonical form. -/
theorem Memory.wf_nil {α : Type} : Memory.wf ([] : Cells α) = true := rfl

/-- `MemRead` after `MemWrite` (R17), for the TFIFO's array. -/
theorem readMem_write (m : Cells Entry) (a b : Nat) (v : Entry) :
    readMem (m.write a v) b = if b = a then v else readMem m b := by
  unfold readMem
  rw [Cells.find?_write]
  split <;> rfl

/-- `pbuf` read after a write (R62). -/
theorem readPbuf_write (m : Cells Byte) (a b : Nat) (v : Byte) :
    readPbuf (m.write a v) b = if b = a then v else readPbuf m b := by
  unfold readPbuf
  rw [Cells.find?_write]
  split <;> rfl

/-! ## Entry layout (R86) -/

theorem entryData_pack (f l : Bool) (d : Byte) : entryData (packEntry f l d) = d := by
  apply BitVec.eq_of_getLsbD_eq
  intro i hi
  have := BitVec.getLsbD_append (x := BitVec.ofBool f ++ BitVec.ofBool l) (y := d) (i := i)
  simpa [entryData, packEntry, hi] using this

theorem entryLast_pack (f l : Bool) (d : Byte) : entryLast (packEntry f l d) = l := by
  have h1 := BitVec.getLsbD_append (x := BitVec.ofBool f ++ BitVec.ofBool l) (y := d) (i := 8)
  have h2 := BitVec.getLsbD_append (x := BitVec.ofBool f) (y := BitVec.ofBool l) (i := 0)
  simp only [Nat.lt_irrefl, Nat.sub_self] at h1
  rw [entryLast, packEntry, h1, h2]
  cases l <;> rfl

theorem entryFirst_pack (f l : Bool) (d : Byte) : entryFirst (packEntry f l d) = f := by
  have h1 := BitVec.getLsbD_append (x := BitVec.ofBool f ++ BitVec.ofBool l) (y := d) (i := 9)
  have h2 := BitVec.getLsbD_append (x := BitVec.ofBool f) (y := BitVec.ofBool l) (i := 1)
  have h8 : ¬ (9 < 8) := by decide
  simp only [h8] at h1
  rw [entryFirst, packEntry, h1, h2]
  cases f <;> rfl

/-! ## Running rows -/

/-- Rows run one list after another. -/
theorem execAll_append (is js : List Instr) (s : State) :
    execAll (is ++ js) s = andThen (execAll is s) (execAll js) := by
  induction is generalizing s with
  | nil => rfl
  | cons i is ih =>
    simp only [List.cons_append, execAll]
    cases h : exec i s <;> simp [ih]

end Sys2Proof.Machine
end

