-- ==== Sys2Proof/Laws/PerInstr.lean ====
section
/-! SUPPORT. The per-instruction family Encoding: decoding a row's encoding gives that row alone (30_encoding.md R80,
R92-R102). -/

namespace Sys2Proof.Laws.Encoding

/-- The row's encoding decodes to the row, and to no other row of its vector. -/
def Statement (i : Instr) : Prop := decode (encode i) = .ok [i]

theorem tfWrite : Statement .tfWrite := rfl
theorem tfWriteFull : Statement .tfWriteFull := rfl
theorem tfWriteCommit : Statement .tfWriteCommit := rfl
theorem tfWriteDiscard : Statement .tfWriteDiscard := rfl
theorem tfRead : Statement .tfRead := rfl
theorem tfReadEmpty : Statement .tfReadEmpty := rfl
theorem tfReadCommit : Statement .tfReadCommit := rfl
theorem tfReadDiscard : Statement .tfReadDiscard := rfl
theorem tfNop : Statement .tfNop := rfl
theorem illegalTfMf5 : Statement .illegalTfMf5 := rfl
theorem illegalTfMf6 : Statement .illegalTfMf6 := rfl
theorem bdIdle : Statement .bdIdle := rfl
theorem bdCapture : Statement .bdCapture := rfl
theorem bdRelay : Statement .bdRelay := rfl
theorem bdEndComplete : Statement .bdEndComplete := rfl
theorem bdEndCompleteEmpty : Statement .bdEndCompleteEmpty := rfl
theorem bdEndInvalid : Statement .bdEndInvalid := rfl
theorem bdEndInvalidEmpty : Statement .bdEndInvalidEmpty := rfl
theorem illegalBdMf1CompleteInvalid : Statement .illegalBdMf1CompleteInvalid := rfl
theorem illegalBdMf2NextComplete : Statement .illegalBdMf2NextComplete := rfl
theorem illegalBdMf2NextInvalid : Statement .illegalBdMf2NextInvalid := rfl
theorem outDataAccept : Statement .outDataAccept := rfl
theorem outDataSkip : Statement .outDataSkip := rfl
theorem outDataNak : Statement .outDataNak := rfl
theorem outPingAck : Statement .outPingAck := rfl
theorem outPingNakNospace : Statement .outPingNakNospace := rfl
theorem outPingNakPidmismatch : Statement .outPingNakPidmismatch := rfl
theorem outDataNotTargeted : Statement .outDataNotTargeted := rfl
theorem outPingNotTargeted : Statement .outPingNotTargeted := rfl
theorem outRespIdle : Statement .outRespIdle := rfl
theorem illegalOutrespMf3 : Statement .illegalOutrespMf3 := rfl
theorem outRxWrite : Statement .outRxWrite := rfl
theorem outRxDrop : Statement .outRxDrop := rfl
theorem outRxCommit : Statement .outRxCommit := rfl
theorem outRxDiscard : Statement .outRxDiscard := rfl
theorem outStreamXfer : Statement .outStreamXfer := rfl
theorem outStreamWait : Statement .outStreamWait := rfl
theorem outStreamEmpty : Statement .outStreamEmpty := rfl
theorem inFillIdle : Statement .inFillIdle := rfl
theorem inFillByte : Statement .inFillByte := rfl
theorem inCloseShort : Statement .inCloseShort := rfl
theorem inCloseFull : Statement .inCloseFull := rfl
theorem inCloseFullLast : Statement .inCloseFullLast := rfl
theorem inTokIdle : Statement .inTokIdle := rfl
theorem inReqNotTargeted : Statement .inReqNotTargeted := rfl
theorem inSendData : Statement .inSendData := rfl
theorem inSendZlp : Statement .inSendZlp := rfl
theorem inNak : Statement .inNak := rfl
theorem illegalIntokMf9 : Statement .illegalIntokMf9 := rfl
theorem inTxIdle : Statement .inTxIdle := rfl
theorem inTxWait : Statement .inTxWait := rfl
theorem inTxByte : Statement .inTxByte := rfl
theorem inTxLast : Statement .inTxLast := rfl
theorem inAckData : Statement .inAckData := rfl
theorem inAckZlp : Statement .inAckZlp := rfl
theorem inAckIgnored : Statement .inAckIgnored := rfl
theorem mbIdleWait : Statement .mbIdleWait := rfl
theorem mbLoad : Statement .mbLoad := rfl
theorem mbHold : Statement .mbHold := rfl
theorem mbShift : Statement .mbShift := rfl
theorem mbReload : Statement .mbReload := rfl
theorem mbFinish : Statement .mbFinish := rfl
theorem reset : Statement .reset := rfl

end Sys2Proof.Laws.Encoding
end

