-- ==== Sys2Proof/Laws/Rows.lean ====
section
/-! SUPPORT. Which rows fire for the bits of each event vector (30_encoding.md R92-R102), in closed form. -/

namespace Sys2Proof

/-- `EV_TF` (R92): one row of each of the four groups, TF_NOP when no strobe is 1, and the two illegal rows. -/
theorem firing_tf (we full wc wdis re empty rc rdis : Bool) :
    firing .tf [we, full, wc, wdis, re, empty, rc, rdis] =
      (if we then (if full then [.tfWriteFull] else [.tfWrite]) else []) ++
      (if wc && !wdis then [.tfWriteCommit] else []) ++
      (if wdis && !wc then [.tfWriteDiscard] else []) ++
      (if re then (if empty then [.tfReadEmpty] else [.tfRead]) else []) ++
      (if rc && !rdis then [.tfReadCommit] else []) ++
      (if rdis && !rc then [.tfReadDiscard] else []) ++
      (if we || wc || wdis || re || rc || rdis then [] else [.tfNop]) ++
      (if wc && wdis then [.illegalTfMf5] else []) ++
      (if rc && rdis then [.illegalTfMf6] else []) := by
  revert we full wc wdis re empty rc rdis
  decide +kernel

/-- `EV_BD` (R93) on the legal values. -/
theorem firing_bd (next complete invalid hold : Bool) (h1 : (complete && invalid) = false)
    (h2 : (next && (complete || invalid)) = false) :
    firing .bd [next, complete, invalid, hold] =
      if next then (if hold then [.bdRelay] else [.bdCapture])
      else if complete then (if hold then [.bdEndComplete] else [.bdEndCompleteEmpty])
      else if invalid then (if hold then [.bdEndInvalid] else [.bdEndInvalidEmpty])
      else [.bdIdle] := by
  revert next complete invalid hold
  decide

/-- `EV_OUTRESP` (R94) on the legal values. -/
theorem firing_outResp (data ping tgt space pid : Bool) (h : (data && ping) = false) :
    firing .outResp [data, ping, tgt, space, pid] =
      if data then
        (if !tgt then [.outDataNotTargeted] else if !pid then [.outDataSkip]
         else if space then [.outDataAccept] else [.outDataNak])
      else if ping then
        (if !tgt then [.outPingNotTargeted] else if !space then [.outPingNakNospace]
         else if pid then [.outPingAck] else [.outPingNakPidmismatch])
      else [.outRespIdle] := by
  revert data ping tgt space pid
  decide

/-- `EV_OUTRX` (R95). -/
theorem firing_outRx (next okay complete invalid : Bool) :
    firing .outRx [next, okay, complete, invalid] =
      (if next then (if okay then [.outRxWrite] else [.outRxDrop]) else []) ++
      (if complete && !invalid then [.outRxCommit] else []) ++
      (if invalid && !complete then [.outRxDiscard] else []) := by
  revert next okay complete invalid
  decide

/-- `EV_OUTSTR` (R96). -/
theorem firing_outStr (valid ready : Bool) :
    firing .outStr [valid, ready] =
      if valid then (if ready then [.outStreamXfer] else [.outStreamWait]) else [.outStreamEmpty] := by
  revert valid ready
  decide

/-- `EV_INFILL` (R97). -/
theorem firing_inFill (xfer last fills : Bool) :
    firing .inFill [xfer, last, fills] =
      if xfer then
        (if fills then (if last then [.inCloseFullLast] else [.inCloseFull])
         else if last then [.inCloseShort] else [.inFillByte])
      else [.inFillIdle] := by
  revert xfer last fills
  decide

/-- `EV_INTOK` (R98) on the legal values. -/
theorem firing_inTok (req tgt staged zlp active : Bool) (h : (req && tgt && active) = false) :
    firing .inTok [req, tgt, staged, zlp, active] =
      if req then
        (if !tgt then [.inReqNotTargeted] else if staged then [.inSendData]
         else if zlp then [.inSendZlp] else [.inNak])
      else [.inTokIdle] := by
  revert req tgt staged zlp active
  decide

/-- `EV_INTX` (R99). -/
theorem firing_inTx (active ready last : Bool) :
    firing .inTx [active, ready, last] =
      if active then
        (if ready then (if last then [.inTxLast] else [.inTxByte]) else [.inTxWait])
      else [.inTxIdle] := by
  revert active ready last
  decide

/-- `EV_INACK` (R100): no row without `hs_in_ack`. -/
theorem firing_inAck (ack mine staged : Bool) :
    firing .inAck [ack, mine, staged] =
      if ack then
        (if mine then (if staged then [.inAckData] else [.inAckZlp]) else [.inAckIgnored])
      else [] := by
  revert ack mine staged
  decide

/-- `EV_MB` (R101). -/
theorem firing_mb (transmit valid ready zero : Bool) :
    firing .mb [transmit, valid, ready, zero] =
      if transmit then
        (if !ready then [.mbHold] else if !zero then [.mbShift]
         else if valid then [.mbReload] else [.mbFinish])
      else if valid then [.mbLoad] else [.mbIdleWait] := by
  revert transmit valid ready zero
  decide

/-- `EV_RST` (R102). -/
theorem firing_rst (rst : Bool) : firing .rst [rst] = if rst then [.reset] else [] := by
  revert rst
  decide

end Sys2Proof
end

