-- ==== Sys2Proof/Laws/Tick.lean ====
section
/-! SUPPORT. What the rows of each event vector do together in one tick, in closed form: one lemma per vector, under the
hypothesis that none of the vector's faults holds. -/

namespace Sys2Proof.Machine

/-- A list of one row runs that row. -/
theorem execAll_singleton (i : Instr) (s : State) : execAll [i] s = exec i s := by
  show andThen (exec i s) (execAll []) = exec i s
  cases exec i s <;> rfl

/-! ## The OUT side -/

/-- `EV_BD`: the rows give the outputs and the next state of R141-R148. -/
theorem runVec_bd (s : State) (h1 : (s.inp.rxComplete && s.inp.rxInvalid) = false)
    (h2 : (s.inp.rxNext && (s.inp.rxComplete || s.inp.rxInvalid)) = false)
    (hn : s.nxt.bd = s.regs.bd) (ho : s.out.bd = bdPorts s.inp s.draws) :
    runVec .bd s = .next { s with
      nxt := { s.nxt with bd := bdTick s.regs.bd s.inp },
      out := { s.out with bd := bdOut s.regs.bd s.inp (Config.freeBdData s.draws) } } := by
  have hf := firing_bd s.inp.rxNext s.inp.rxComplete s.inp.rxInvalid s.regs.bd.holdValid h1 h2
  obtain ⟨cfg, regs, nxt, inp, out, script, draws, of, inf⟩ := s
  simp only at h1 h2 hn ho hf
  simp only [runVec, State.ev, hf]
  obtain ⟨tf, bd, tog, inep, mb⟩ := nxt
  obtain ⟨otf, obd, oo, oi, om⟩ := out
  simp only at hn ho
  subst hn ho
  cases hx : inp.rxNext <;> cases hc : inp.rxComplete <;> cases hi : inp.rxInvalid <;> cases hv : regs.bd.holdValid <;>
    simp [hx, hc, hi] at h1 h2 ⊢ <;>
    simp [execAll_singleton, exec, execBdIdle, execBdCapture, execBdRelay, execBdEndComplete, execBdEndCompleteEmpty,
      execBdEndInvalid, execBdEndInvalidEmpty, State.emitHeld, State.releaseHold, State.driveBd, State.schedBd, bdTick,
      bdOut, bdPorts, hx, hc, hi, hv]

/-- `EV_OUTRESP`: the rows give the handshake of R168 and R169 and the toggle of R179. -/
theorem runVec_outResp (s : State) (h3 : (s.inp.dataReq && s.inp.pingReq) = false)
    (h4 : (s.inp.dataReq && s.targetingEndpoint && !s.inp.rxComplete) = false) :
    runVec .outResp s = .next { s with
      nxt := { s.nxt with expectedDataToggle :=
        if s.dataRespReq && s.okayToReceive then !s.regs.expectedDataToggle else s.nxt.expectedDataToggle },
      out := { s.out with outp := { s.out.outp with hsAck := s.hsAckEq, hsNak := s.hsNakEq } } } := by
  have hf := firing_outResp s.inp.dataReq s.inp.pingReq s.targetingEndpoint s.sufficientSpace s.expectedPidMatch h3
  simp only [runVec, State.ev, hf]
  cases hd : s.inp.dataReq <;> cases hp : s.inp.pingReq <;> cases ht : s.targetingEndpoint <;>
    cases hs : s.sufficientSpace <;> cases hm : s.expectedPidMatch <;> cases hc : s.inp.rxComplete <;>
    simp [hd, hp, ht, hc] at h3 h4 ⊢ <;>
    simp [execAll_singleton, exec, execOutDataAccept, execOutDataSkip, execOutDataNak, execOutPingAck,
      execOutPingNakNospace, execOutPingNakPidmismatch, execOutDataNotTargeted, execOutPingNotTargeted,
      execOutRespIdle, State.needsVerdict, State.handshake, State.driveOut, State.schedToggle, State.dataRespReq,
      State.pingRespReq, State.okayToReceive, State.shouldSkip, State.hsAckEq, State.hsNakEq, hd, hp, ht, hs, hm, hc]

/-- `EV_OUTRX`: the rows drive the TFIFO's write side as R197 says. -/
theorem runVec_outRx (s : State) (h5 : (s.out.bd.bdComplete && s.out.bd.bdInvalid) = false)
    (h7 : (s.out.bd.bdNext && s.okayToReceive && s.regs.tf.full s.cfg.bufDepth) = false) :
    runVec .outRx s = .next { s with
      out := { s.out with tf := { s.out.tf with
        we := if s.out.bd.bdNext then s.okayToReceive else s.out.tf.we,
        wd := if s.out.bd.bdNext then packEntry s.out.bd.bdFirst s.out.bd.bdLast s.out.bd.bdData else s.out.tf.wd,
        wc := s.out.bd.bdComplete || s.out.tf.wc,
        wdis := s.out.bd.bdInvalid || s.out.tf.wdis } } } := by
  have hf := firing_outRx s.out.bd.bdNext s.okayToReceive s.out.bd.bdComplete s.out.bd.bdInvalid
  simp only [runVec, State.ev, hf]
  cases hn : s.out.bd.bdNext <;> cases ho : s.okayToReceive <;> cases hc : s.out.bd.bdComplete <;>
    cases hi : s.out.bd.bdInvalid <;> cases hu : s.regs.tf.full s.cfg.bufDepth <;>
    simp [hn, ho, hc, hi, hu] at h5 h7 ⊢ <;>
    simp [execAll, exec, execOutRxWrite, execOutRxDrop, execOutRxCommit, execOutRxDiscard, State.driveTf, hu]

/-- `EV_OUTSTR`: the rows drive the TFIFO's read side as R188 says. -/
theorem runVec_outStr (s : State) :
    runVec .outStr s = .next { s with
      out := { s.out with tf := { s.out.tf with
        re := !s.regs.tf.empty && s.inp.sReady,
        rc := (!s.regs.tf.empty && s.inp.sReady) || s.out.tf.rc } } } := by
  have hf := firing_outStr (!s.regs.tf.empty) s.inp.sReady
  simp only [runVec, State.ev, hf]
  cases hv : s.regs.tf.empty <;> cases hr : s.inp.sReady <;>
    simp [execAll_singleton, exec, execOutStreamXfer, execOutStreamWait, execOutStreamEmpty, State.driveTf]

/-- The TFIFO's inputs of a tick, from its ports (R84). -/
def TfPorts.inputs (p : TfPorts) : TfIn := ⟨p.we, p.wd, p.wc, p.wdis, p.re, p.rc, p.rdis⟩

/-- `EV_TF`: the rows give the next state of R125. -/
theorem runVec_tf (s : State) (h5 : (s.out.tf.wc && s.out.tf.wdis) = false)
    (h6 : (s.out.tf.rc && s.out.tf.rdis) = false)
    (h7 : (s.out.tf.we && s.regs.tf.full s.cfg.bufDepth) = false) (hn : s.nxt.tf = s.regs.tf) :
    runVec .tf s = .next { s with
      nxt := { s.nxt with tf := tfTick s.cfg.bufDepth s.regs.tf s.out.tf.inputs } } := by
  have hf := firing_tf s.out.tf.we (s.regs.tf.full s.cfg.bufDepth) s.out.tf.wc s.out.tf.wdis s.out.tf.re
    s.regs.tf.empty s.out.tf.rc s.out.tf.rdis
  have hrun : runVec .tf s = execAll (firing .tf [s.out.tf.we, s.regs.tf.full s.cfg.bufDepth, s.out.tf.wc,
    s.out.tf.wdis, s.out.tf.re, s.regs.tf.empty, s.out.tf.rc, s.out.tf.rdis]) s := rfl
  rw [hrun, hf]
  obtain ⟨cfg, regs, nxt, inp, out, script, draws, of, inf⟩ := s
  obtain ⟨ntf, nbd, ntog, ninep, nmb⟩ := nxt
  simp only at h5 h6 h7 hn ⊢
  subst hn
  cases hw : out.tf.we <;> cases hu : regs.tf.full cfg.bufDepth <;> cases hc : out.tf.wc <;>
    cases hd : out.tf.wdis <;> simp only [hw, hu, hc, hd, Bool.and_true, Bool.and_false,
      Bool.true_eq_false] at h5 h7 <;>
    cases hr : out.tf.re <;> cases he : regs.tf.empty <;> cases hk : out.tf.rc <;> cases hx : out.tf.rdis <;>
    simp only [hk, hx, Bool.and_true, Bool.and_false, Bool.true_eq_false] at h6 <;>
    simp [execAll, exec, execTfWrite, execTfWriteCommit, execTfWriteDiscard, execTfRead, execTfReadEmpty,
      execTfReadCommit, execTfReadDiscard, execTfNop, State.schedTf, State.effWrite, State.effRead, tfTick,
      TfPorts.inputs, hw, hu, hc, hd, hr, he, hk, hx, Nat.add_assoc]

/-! ## The IN side -/

/-- `EV_MB`: the rows give the next state of R253, but for `prev_offer`. -/
theorem runVec_mb (s : State) (h8 : s.mf8Mb = false) (hn : s.nxt.mb = s.regs.mb) :
    runVec .mb s = .next { s with
      nxt := { s.nxt with mb :=
        { mbinTick s.cfg s.regs.mb s.inp s.regs.inep.ready with prevOffer := s.regs.mb.prevOffer } } } := by
  have hf := firing_mb s.regs.mb.transmitting s.inp.pValid s.regs.inep.ready s.regs.mb.cntZero
  have hrun : runVec .mb s = execAll (firing .mb [s.regs.mb.transmitting, s.inp.pValid, s.regs.inep.ready,
    s.regs.mb.cntZero]) s := rfl
  have h8' : ∀ t, s.keepsWord t = .next t := by intro t; simp [State.keepsWord, h8]
  rw [hrun, hf]
  clear hf hrun h8
  obtain ⟨cfg, ⟨rtf, rbd, rtog, rinep, ⟨st, sh, cnt, lf, ll, po⟩⟩, ⟨ntf, nbd, ntog, ninep, nmb⟩, inp, out, script,
    draws, of, inf⟩ := s
  simp only at hn
  subst hn
  simp only at h8' ⊢
  have hc : ∀ c, Mbin.cntZero ⟨st, sh, c, lf, ll, po⟩ = decide (c = 0) := by
    intro c
    simp [Mbin.cntZero, beq_eq_decide]
  have h0 : ∀ c, Mbin.transmitting ⟨.idle, sh, c, lf, ll, po⟩ = false := fun _ => rfl
  have h1 : ∀ c, Mbin.transmitting ⟨.transmit, sh, c, lf, ll, po⟩ = true := fun _ => rfl
  rcases st with _ | _ <;> cases hv : inp.pValid <;> cases hr : rinep.ready <;> rcases cnt with _ | cnt <;>
    simp [h0, h1, execAll_singleton, exec, execMbIdleWait, execMbLoad, execMbHold, execMbShift,
      execMbReload, execMbFinish, h8', State.loadWord, State.schedMb, State.word, shiftByte, mbinTick, hv, hc]

/-- `EV_INFILL`: the rows give the fill side of R225. -/
theorem runVec_inFill (s : State) (h8 : s.mf8In = false) (hn : s.nxt.inep = s.regs.inep) :
    runVec .inFill s = .next { s with
      nxt := { s.nxt with inep := inepFill s.cfg s.regs.inep s.inepIn } } := by
  have hf := firing_inFill s.xferP s.inepIn.last s.fills
  have hrun : runVec .inFill s = execAll (firing .inFill [s.xferP, s.inepIn.last, s.fills]) s := rfl
  have h8' : ∀ t, s.keepsOffer t = .next t := by intro t; simp [State.keepsOffer, h8]
  rw [hrun, hf]
  clear hf hrun h8
  have hx : s.xferP = (s.inepIn.valid && s.regs.inep.ready) := rfl
  have hfl : s.fills = decide (s.regs.inep.fillLen + 1 = s.cfg.inMps) := by simp [State.fills, beq_eq_decide]
  rw [hx, hfl]
  generalize hp : s.inepIn = p at *
  obtain ⟨cfg, regs, ⟨ntf, nbd, ntog, ninep, nmb⟩, inp, out, script, draws, of, inf⟩ := s
  simp only at hn
  subst hn
  simp only at h8' ⊢
  cases hs : regs.inep.staged <;> cases hz : regs.inep.zlpPending <;> cases hv : p.valid <;> cases hl : p.last <;>
    by_cases hf : regs.inep.fillLen + 1 = cfg.inMps <;>
    simp [Inep.ready, execAll_singleton, exec, execInFillIdle, execInFillByte, execInCloseShort, execInCloseFull,
      execInCloseFullLast, h8', State.fillByte, State.schedInep, inepFill, Config.generateZlps, hs, hz, hv, hl, hf, hp]

/-- `EV_INTOK`: the rows give the token side of R225, with `hs_nak` and `tx_zlp`. -/
theorem runVec_inTok (s : State) (h9 : (s.inp.inReq && s.targetingIn && s.regs.inep.txActive) = false)
    (h11 : (s.inp.inReq && s.inp.hsInAck) = false)
    (hk : s.out.inp.hsNak = false) (hz : s.out.inp.txZlp = false) :
    runVec .inTok s = .next { s with
      nxt := { s.nxt with inep := inepToken s.regs.inep s.inp.inReq s.targetingIn s.nxt.inep },
      out := { s.out with inp := { s.out.inp with
        hsNak := s.inp.inReq && s.targetingIn && !s.regs.inep.staged && !s.regs.inep.zlpPending,
        txZlp := s.inp.inReq && s.targetingIn && !s.regs.inep.staged && s.regs.inep.zlpPending } } } := by
  have hf := firing_inTok s.inp.inReq s.targetingIn s.regs.inep.staged s.regs.inep.zlpPending s.regs.inep.txActive h9
  have hrun : runVec .inTok s = execAll (firing .inTok [s.inp.inReq, s.targetingIn, s.regs.inep.staged,
    s.regs.inep.zlpPending, s.regs.inep.txActive]) s := rfl
  rw [hrun, hf]
  obtain ⟨cfg, regs, nxt, inp, ⟨otf, obd, oo, oi, om⟩, script, draws, of, inf⟩ := s
  obtain ⟨a, b, c, d, e, f, g, h⟩ := oi
  simp only at hk hz
  subst hk hz
  simp only at h9 h11 ⊢
  cases hr : inp.inReq <;> cases ha : inp.hsInAck <;> simp [hr, ha] at h11 ⊢ <;>
    cases ht : State.targetingIn _ <;> cases hs : regs.inep.staged <;> cases hzp : regs.inep.zlpPending <;>
    simp [execAll_singleton, exec, execInTokIdle, execInReqNotTargeted, execInSendData, execInSendZlp, execInNak,
      State.noAck, State.tokenOut, State.driveIn, State.schedInep, inepToken, ha, hs, hzp]

/-- `EV_INTX`: the rows give the transmit side of R225. -/
theorem runVec_inTx (s : State) (hv : s.out.inp.txValid = s.regs.inep.txActive) :
    runVec .inTx s = .next { s with
      nxt := { s.nxt with inep := inepTransmit s.regs.inep s.inp.txReady s.nxt.inep } } := by
  have hf := firing_inTx s.regs.inep.txActive s.inp.txReady s.regs.inep.txLast
  have hrun : runVec .inTx s = execAll (firing .inTx [s.regs.inep.txActive, s.inp.txReady, s.regs.inep.txLast]) s := rfl
  rw [hrun, hf]
  obtain ⟨cfg, regs, nxt, inp, ⟨otf, obd, oo, ⟨a, b, c, d, e, f, g, h⟩, om⟩, script, draws, of, inf⟩ := s
  simp only at hv ⊢
  subst hv
  cases ha : regs.inep.txActive <;> cases hr : inp.txReady <;> cases hl : regs.inep.atLast <;>
    simp [Inep.txLast, execAll_singleton, exec, execInTxIdle, execInTxWait, execInTxByte, execInTxLast,
      State.driveIn, State.schedInep, inepTransmit, ha, hl]

/-- `EV_INACK`: the rows give the ACK side of R225. -/
theorem runVec_inAck (s : State) (h11 : (s.inp.inReq && s.inp.hsInAck) = false) :
    runVec .inAck s = .next { s with
      nxt := { s.nxt with inep := inepAck s.regs.inep s.inp.hsInAck s.targetingIn s.nxt.inep } } := by
  have hf := firing_inAck s.inp.hsInAck s.ackMatch s.regs.inep.staged
  have hrun : runVec .inAck s = execAll (firing .inAck [s.inp.hsInAck, s.ackMatch, s.regs.inep.staged]) s := rfl
  rw [hrun, hf]
  cases ha : s.inp.hsInAck <;> cases hr : s.inp.inReq <;> simp [ha, hr] at h11 ⊢ <;>
    cases ht : s.targetingIn <;> cases hw : s.regs.inep.awaitingAck <;> cases hs : s.regs.inep.staged <;>
    simp [State.ackMatch, execAll, execAll_singleton, exec, execInAckData, execInAckZlp, execInAckIgnored,
      State.noReq, State.schedInep, inepAck, hr, ht, hw, hs]

/-! ## Vectors in sequence -/

/-- Vectors run one list after another. -/
theorem runVecs_append (us vs : List Vec) (s : State) :
    runVecs (us ++ vs) s = andThen (runVecs us s) (runVecs vs) := by
  induction us generalizing s with
  | nil => rfl
  | cons u us ih =>
    simp only [List.cons_append, runVecs]
    cases h : runVec u s <;> simp [ih]

/-- No fault in a tick of the OUT instance: none of its conditions of R270 holds. -/
theorem outTickFault_none {s : State} (h : s.outTickFault = none) :
    s.mf1 = false ∧ s.mf2 = false ∧ s.mf3 = false ∧ s.mf4 = false ∧ s.mf5 = false ∧ s.mf6 = false ∧ s.mf7 = false := by
  unfold State.outTickFault at h
  cases h0 : (s.cfg.outSide == .outep && s.mf10) <;> simp only [h0, if_true] at h
  · cases h1 : s.mf1 <;> cases h2 : s.mf2 <;> cases h3 : s.mf3 <;> cases h4 : s.mf4 <;> cases h5 : s.mf5 <;>
      cases h6 : s.mf6 <;> cases h7 : s.mf7 <;> simp [h1, h2, h3, h4, h5, h6, h7] at h ⊢
  · simp at h

/-- No fault in a tick of the IN instance. -/
theorem inTickFault_none {s : State} (h : s.inTickFault = none) :
    s.mf11 = false ∧ s.mf9 = false ∧ s.mf8 = false := by
  unfold State.inTickFault at h
  cases h10 : s.mf10 <;> cases h11 : s.mf11 <;> cases h9 : s.mf9 <;> cases h8 : s.mf8 <;>
    simp [h10, h11, h9, h8] at h ⊢

/-- What OUTEP's five vectors leave of a tick that has just opened (R197). -/
def State.outepDone (s : State) : State :=
  let r := outepTick s.cfg s.regs s.inp (Config.freeBdData s.draws)
  let b := bdOut s.regs.bd s.inp (Config.freeBdData s.draws)
  let xfer := !s.regs.tf.empty && s.inp.sReady
  { s with
    nxt := { s.nxt with tf := r.tf, bd := r.bd, expectedDataToggle := r.toggle }
    out := { s.out with
      bd := b
      outp := { s.out.outp with hsAck := r.hsAck, hsNak := r.hsNak }
      tf := { s.out.tf with
        we := s.okayToReceive && b.bdNext
        wd := packEntry b.bdFirst b.bdLast b.bdData
        wc := b.bdComplete
        wdis := b.bdInvalid
        re := xfer
        rc := true } } }

/-- `wd` before a row drives it is what the BD's default outputs give (R141, R197). -/
theorem bdOut_wd (b : Bd) (i : Inputs) (free : Byte) :
    (if (bdOut b i free).bdNext then
        packEntry (bdOut b i free).bdFirst (bdOut b i free).bdLast (bdOut b i free).bdData
      else packEntry false false free) =
      packEntry (bdOut b i free).bdFirst (bdOut b i free).bdLast (bdOut b i free).bdData := by
  cases hv : b.holdValid <;> cases hn : i.rxNext <;> cases hc : i.rxComplete <;> cases hi : i.rxInvalid <;>
    simp [bdOut, hv, hn, hc, hi]

/-- OUTEP's five vectors together do what R197 says. -/
theorem runVecs_outep (s : State) (hc : s.cfg.outSide = .outep) (hn : s.nxt = s.regs)
    (ho : s.out = presented s.cfg s.regs s.inp s.draws) (h : s.outTickFault = none) :
    runVecs [.bd, .outResp, .outRx, .outStr, .tf] s = .next s.outepDone := by
  obtain ⟨h1, h2, h3, h4, -, -, h7⟩ := outTickFault_none h
  simp only [State.mf1, State.mf2, State.mf3, State.mf4, State.mf7, hc, beq_self_eq_true, Bool.true_and] at h1 h2 h3 h4 h7
  have hok : s.okayToReceive = (s.inp.tokEp.toNat == s.cfg.outEp && s.inp.tokOut &&
      decide (s.cfg.outMps ≤ s.cfg.bufDepth - s.regs.tf.nC) && s.inp.rxPidToggle == s.regs.expectedDataToggle) := rfl
  obtain ⟨cfg, regs', regs, inp, out, script, draws, of, inf⟩ := s
  simp only at hc hn ho h1 h2 h3 h4 h7 hok
  subst hn ho
  simp only [runVecs]
  rw [runVec_bd _ h1 h2 rfl rfl]
  simp only [andThen_next]
  rw [runVec_outResp _ h3 h4]
  simp only [andThen_next]
  rw [runVec_outRx _ (by simpa [bdOut] using h1) (by
    simpa [bdOut, State.okayToReceive, State.targetingEndpoint, State.sufficientSpace, State.expectedPidMatch,
      State.bdEmits, Bool.and_comm, Bool.and_left_comm] using h7)]
  simp only [andThen_next]
  rw [runVec_outStr]
  simp only [andThen_next]
  rw [runVec_tf]
  · have key : ∀ (ok : Bool) (b : BdPorts) (w : Entry),
        tfTick cfg.bufDepth regs.tf ⟨if b.bdNext then ok else false,
          if b.bdNext then packEntry b.bdFirst b.bdLast b.bdData else w, b.bdComplete || false,
          b.bdInvalid || false, !regs.tf.empty && inp.sReady, !regs.tf.empty && inp.sReady || true, false⟩ =
        tfTick cfg.bufDepth regs.tf ⟨ok && b.bdNext, packEntry b.bdFirst b.bdLast b.bdData, b.bdComplete, b.bdInvalid,
          !regs.tf.empty && inp.sReady, true, false⟩ := by
      intro ok b w
      cases hb : b.bdNext <;> cases ok <;> simp [tfTick]
    simp only [andThen_next, State.outepDone, outepTick, State.okayToReceive, State.targetingEndpoint,
      State.sufficientSpace, State.expectedPidMatch, State.dataRespReq, State.pingRespReq, State.hsAckEq,
      State.hsNakEq, State.shouldSkip, Tfifo.runSpace, TfPorts.inputs, presented, tfPorts, hc, Host.Outcome.next.injEq,
      State.mk.injEq, Regs.mk.injEq, Outputs.mk.injEq, TfPorts.mk.injEq, true_and, and_true]
    refine ⟨⟨key _ _ _, rfl⟩, ⟨?_, ?_, Bool.or_false _, Bool.or_false _, Bool.or_true _⟩, rfl⟩
    · cases (bdOut regs.bd inp (Config.freeBdData draws)).bdNext <;> simp
    · exact bdOut_wd regs.bd inp (Config.freeBdData draws)
  · simpa [bdOut, presented, tfPorts, hc] using h1
  · simp [presented, tfPorts, hc]
  · simp only [presented, tfPorts, hc, bdOut]
    revert h7
    simp only [State.bdEmits]
    cases regs.bd.holdValid && (inp.rxNext || inp.rxComplete || inp.rxInvalid) <;> simp
    exact id
  · rfl

/-- The standalone TFIFO's vector does what R125 says. -/
theorem runVecs_tfifo (s : State) (hc : s.cfg.outSide = .tfifoAlone) (hn : s.nxt = s.regs)
    (ho : s.out = presented s.cfg s.regs s.inp s.draws) (h : s.outTickFault = none) :
    runVecs [.tf] s = .next { s with
      nxt := { s.nxt with
        tf := tfTick s.cfg.bufDepth s.regs.tf
          { we := s.inp.we, wd := s.inp.wd, wc := s.inp.wc, wdis := s.inp.wdis, re := s.inp.re, rc := s.inp.rc,
            rdis := s.inp.rdis } } } := by
  obtain ⟨-, -, -, -, h5, h6, h7⟩ := outTickFault_none h
  simp only [State.mf5, State.mf6, State.mf7, hc] at h5 h6 h7
  have e : s.out.tf.inputs = ⟨s.inp.we, s.inp.wd, s.inp.wc, s.inp.wdis, s.inp.re, s.inp.rc, s.inp.rdis⟩ := by
    simp [ho, presented, tfPorts, TfPorts.inputs, hc]
  have e' := e
  simp only [TfPorts.inputs, TfIn.mk.injEq] at e'
  obtain ⟨e1, -, e2, e3, -, e4, e5⟩ := e'
  simp only [runVecs]
  rw [runVec_tf s (by rw [e2, e3]; exact h5) (by rw [e4, e5]; exact h6) (by rw [e1]; exact h7) (by rw [hn]), e]
  rfl

/-- What INEP's four vectors leave, but for `prev_offer` (R225). -/
def State.inepDone (s : State) : State :=
  { s with
    nxt := { s.nxt with inep :=
      { inepTick s.cfg s.regs.inep s.inp s.inepIn with prevOffer := s.regs.inep.prevOffer } }
    out := { s.out with inp := { s.out.inp with
      hsNak := s.inp.inReq && s.targetingIn && !s.regs.inep.staged && !s.regs.inep.zlpPending
      txZlp := s.inp.inReq && s.targetingIn && !s.regs.inep.staged && s.regs.inep.zlpPending } } }

theorem inepFill_prev (c : Cfg) (n : Inep) (p : ByteStream) : (inepFill c n p).prevOffer = n.prevOffer := by
  unfold inepFill
  split
  · dsimp only
    split
    · rfl
    · split <;> rfl
  · rfl

theorem inepToken_prev (n m : Inep) (a b : Bool) : (inepToken n a b m).prevOffer = m.prevOffer := by
  unfold inepToken
  split
  · rfl
  · split <;> rfl

theorem inepTransmit_prev (n m : Inep) (a : Bool) : (inepTransmit n a m).prevOffer = m.prevOffer := by
  unfold inepTransmit
  split
  · split <;> rfl
  · rfl

theorem inepAck_prev (n m : Inep) (a b : Bool) : (inepAck n a b m).prevOffer = m.prevOffer := by
  unfold inepAck
  split
  · split <;> rfl
  · rfl

/-- INEP's four vectors together do what R225 says. -/
theorem runVecs_inep (s : State) (hn : s.nxt.inep = s.regs.inep) (h8 : s.mf8In = false)
    (h9 : s.mf9 = false) (h11 : s.mf11 = false) (hk : s.out.inp.hsNak = false) (hz : s.out.inp.txZlp = false)
    (hv : s.out.inp.txValid = s.regs.inep.txActive) :
    runVecs [.inFill, .inTok, .inTx, .inAck] s = .next s.inepDone := by
  simp only [runVecs]
  rw [runVec_inFill s h8 hn]
  simp only [andThen_next]
  rw [runVec_inTok { s with nxt := { s.nxt with inep := inepFill s.cfg s.regs.inep s.inepIn } } h9 h11 hk hz]
  simp only [andThen_next]
  rw [runVec_inTx _ ?_]
  simp only [andThen_next]
  rw [runVec_inAck _ ?_]
  simp only [andThen_next]
  have e : ∀ m : Inep, m.prevOffer = s.regs.inep.prevOffer → ∀ o, m = { ({ m with prevOffer := o } : Inep) with
      prevOffer := s.regs.inep.prevOffer } := by
    intro m hm o
    rw [← hm]
  · unfold State.inepDone inepTick
    congr 3
    exact e _ (by rw [inepAck_prev, inepTransmit_prev, inepToken_prev, inepFill_prev]) _
  · exact h11
  · exact hv

/-- What MBIN's vector leaves, but for `prev_offer` (R253). -/
def State.mbinDone (s : State) : State :=
  { s with
    nxt := { s.nxt with mb :=
      { mbinTick s.cfg s.regs.mb s.inp s.regs.inep.ready with prevOffer := s.regs.mb.prevOffer } } }

/-- What the OUT side's vectors leave of a tick that has just opened. -/
def State.outDone (s : State) : State :=
  match s.cfg.outSide with
  | .outep => s.outepDone
  | .tfifoAlone =>
    { s with
      nxt := { s.nxt with
        tf := tfTick s.cfg.bufDepth s.regs.tf
          { we := s.inp.we, wd := s.inp.wd, wc := s.inp.wc, wdis := s.inp.wdis, re := s.inp.re, rc := s.inp.rc,
            rdis := s.inp.rdis } } }

/-- What the IN side's vectors leave, but for `prev_offer`. -/
def State.inDone (s : State) : State :=
  match s.cfg.inSide with
  | .inep => s.inepDone
  | .mbin => s.mbinDone.inepDone

/-- What a tick of the OUT instance without reset and without fault leaves. -/
def State.outTickDone (s : State) : State := s.outDone.closeTick

/-- What a tick of the IN instance without reset and without fault leaves. -/
def State.inTickDone (s : State) : State := s.inDone.watchOffers.closeTick

/-- MF8 of INEP's producer port looks at the port and the registers alone. -/
theorem mf8In_congr {s t : State} (hp : t.inepIn = s.inepIn) (hr : t.regs = s.regs) : t.mf8In = s.mf8In := by
  unfold State.mf8In State.inepOffer
  rw [hp, hr]

theorem firing_ev_rst (s : State) : firing .rst (s.ev .rst) = if s.inp.rst then [.reset] else [] :=
  firing_rst s.inp.rst

/-- A tick of the OUT instance that has just opened, is no reset tick and takes no fault. -/
theorem outTick_next (s : State) (hr : s.inp.rst = false) (hn : s.nxt = s.regs)
    (ho : s.out = presented s.cfg s.regs s.inp s.draws) (h : s.outTickFault = none) :
    s.outTick = .next s.outTickDone := by
  have hout : runVecs (outVecs s.cfg) s = .next s.outDone := by
    unfold outVecs State.outDone
    cases hc : s.cfg.outSide with
    | outep => exact runVecs_outep s hc hn ho h
    | tfifoAlone => exact runVecs_tfifo s hc hn ho h
  unfold State.outTick
  rw [firing_ev_rst, hr]
  simp only [Bool.false_eq_true, if_false, h, hout, andThen_next]
  rfl

/-- A tick of the IN instance that has just opened, is no reset tick and takes no fault. -/
theorem inTick_next (s : State) (hr : s.inp.rst = false) (hn : s.nxt = s.regs)
    (ho : s.out = presented s.cfg s.regs s.inp s.draws) (h : s.inTickFault = none) :
    s.inTick = .next s.inTickDone := by
  obtain ⟨h11, h9, h8⟩ := inTickFault_none h
  have hk : s.out.inp.hsNak = false ∧ s.out.inp.txZlp = false ∧ s.out.inp.txValid = s.regs.inep.txActive := by
    rw [ho]
    exact ⟨rfl, rfl, rfl⟩
  have hin : runVecs (inVecs s.cfg) s = .next s.inDone := by
    unfold inVecs State.inDone
    cases hc : s.cfg.inSide with
    | inep =>
      have h8' : s.mf8In = false := by simpa [State.mf8, hc] using h8
      exact runVecs_inep s (by rw [hn]) h8' h9 h11 hk.1 hk.2.1 hk.2.2
    | mbin =>
      have h8' : s.mf8Mb = false ∧ s.mf8In = false := by simpa [State.mf8, hc] using h8
      have hm := runVec_mb s h8'.1 (by rw [hn])
      show andThen (runVec .mb s) (runVecs [.inFill, .inTok, .inTx, .inAck]) = _
      rw [hm]
      simp only [andThen_next]
      apply runVecs_inep
      · show s.nxt.inep = s.regs.inep
        rw [hn]
      · exact (mf8In_congr (s := s) rfl rfl).trans h8'.2
      · exact h9
      · exact h11
      · exact hk.1
      · exact hk.2.1
      · exact hk.2.2
  unfold State.inTick
  rw [firing_ev_rst, hr]
  simp only [Bool.false_eq_true, if_false, h, hin, andThen_next]
  rfl

/-! ## The two parts of a step -/

/-- What a reset tick leaves (R291, R292). -/
def State.resetDone (s : State) : State :=
  State.closeTick { s with nxt := s.regs.afterReset, out := s.out.forcedIdle s.draws }

/-- An instance that does not step has no part. -/
theorem outPart_none {s : State} (h : ¬ s.outLive) : s.outPart = none := by
  have : s.outRuns = false := by
    simp only [State.outLive, not_and] at h
    cases hb : s.cfg.outBuilt <;> cases hf : s.outFault <;> simp_all [State.outRuns]
  simp [State.outPart, this]

theorem inPart_none {s : State} (h : ¬ s.inLive) : s.inPart = none := by
  have : s.inRuns = false := by
    simp only [State.inLive, not_and] at h
    cases hb : s.cfg.inBuilt <;> cases hf : s.inFault <;> simp_all [State.inRuns]
  simp [State.inPart, this]

/-- All that the OUT instance can answer in a tick, in closed form (R18, R102, R272). -/
theorem outPart_live {s : State} (h : s.outLive) :
    s.outPart = some
      (if s.openTick.inp.rst then .next s.openTick.resetDone
       else match s.openTick.outTickFault with
         | some f => .fault f
         | none => .next s.openTick.outTickDone) := by
  have hr : s.outRuns = true := by simp [State.outRuns, h.1, h.2]
  simp only [State.outPart, hr, if_true]
  congr 1
  cases hrst : s.openTick.inp.rst with
  | true =>
    unfold State.outTick
    rw [firing_ev_rst, hrst]
    rfl
  | false =>
    cases hf : s.openTick.outTickFault with
    | some f =>
      unfold State.outTick
      rw [firing_ev_rst, hrst]
      simp [hf]
    | none => simpa using outTick_next s.openTick hrst rfl rfl hf

/-- All that the IN instance can answer in a tick, in closed form. -/
theorem inPart_live {s : State} (h : s.inLive) :
    s.inPart = some
      (if s.openTick.inp.inRst then .next s.openTick.forIn.resetDone
       else match s.openTick.inTickFault with
         | some f => .fault f
         | none => .next s.openTick.forIn.inTickDone) := by
  have hr : s.inRuns = true := by simp [State.inRuns, h.1, h.2]
  simp only [State.inPart, hr, if_true]
  congr 1
  have hv : s.openTick.forIn.inp.rst = s.openTick.inp.inRst := rfl
  have hq : s.openTick.forIn.inTickFault = s.openTick.inTickFault := rfl
  cases hrst : s.openTick.inp.inRst with
  | true =>
    unfold State.inTick
    rw [firing_ev_rst, hv, hrst]
    rfl
  | false =>
    cases hf : s.openTick.inTickFault with
    | some f =>
      unfold State.inTick
      rw [firing_ev_rst, hv, hrst, hq]
      simp [hf]
    | none => simpa using inTick_next s.openTick.forIn (hv.trans hrst) rfl rfl (hq.trans hf)

/-- No instance answers a refusal. -/
theorem outPart_not_refused (s : State) (q : Refusal) : s.outPart ≠ some (.refused q) := by
  by_cases h : s.outLive
  · rw [outPart_live h]
    cases s.openTick.inp.rst <;> cases s.openTick.outTickFault <;> simp
  · simp [outPart_none h]

theorem inPart_not_refused (s : State) (q : Refusal) : s.inPart ≠ some (.refused q) := by
  by_cases h : s.inLive
  · rw [inPart_live h]
    cases s.openTick.inp.inRst <;> cases s.openTick.inTickFault <;> simp
  · simp [inPart_none h]

/-! ## What an instance's part leaves of the other fields -/

theorem State.adoptOut_frame (r : Option Result) (s : State) :
    (s.adoptOut r).cfg = s.cfg ∧ (s.adoptOut r).inp = s.inp ∧ (s.adoptOut r).script = s.script ∧
      (s.adoptOut r).draws = s.draws ∧ s.sameIn (s.adoptOut r) := by
  unfold State.adoptOut
  split <;> exact ⟨rfl, rfl, rfl, rfl, rfl, rfl, rfl, rfl, rfl⟩

theorem State.adoptIn_frame (r : Option Result) (s : State) :
    (s.adoptIn r).cfg = s.cfg ∧ (s.adoptIn r).inp = s.inp ∧ (s.adoptIn r).script = s.script ∧
      (s.adoptIn r).draws = s.draws ∧ s.sameOut (s.adoptIn r) := by
  unfold State.adoptIn
  split <;> exact ⟨rfl, rfl, rfl, rfl, rfl, rfl, rfl, rfl, rfl, rfl, rfl⟩

theorem State.sameOut.trans {a b c : State} (h : a.sameOut b) (k : b.sameOut c) : a.sameOut c := by
  obtain ⟨h1, h2, h3, h4, h5, h6, h7⟩ := h
  obtain ⟨k1, k2, k3, k4, k5, k6, k7⟩ := k
  exact ⟨k1.trans h1, k2.trans h2, k3.trans h3, k4.trans h4, k5.trans h5, k6.trans h6, k7.trans h7⟩

theorem State.sameIn.trans {a b c : State} (h : a.sameIn b) (k : b.sameIn c) : a.sameIn c := by
  obtain ⟨h1, h2, h3, h4, h5⟩ := h
  obtain ⟨k1, k2, k3, k4, k5⟩ := k
  exact ⟨k1.trans h1, k2.trans h2, k3.trans h3, k4.trans h4, k5.trans h5⟩

/-- Adopting the same part leaves the same OUT instance. -/
theorem State.adoptOut_congr {a b : State} (r : Option Result) (h : a.sameOut b) :
    (a.adoptOut r).sameOut (b.adoptOut r) := by
  obtain ⟨h1, h2, h3, h4, h5, h6, h7⟩ := h
  unfold State.adoptOut
  split <;> simp_all [State.sameOut]

theorem State.adoptIn_congr {a b : State} (r : Option Result) (h : a.sameIn b) :
    (a.adoptIn r).sameIn (b.adoptIn r) := by
  obtain ⟨h1, h2, h3, h4, h5⟩ := h
  unfold State.adoptIn
  split <;> simp_all [State.sameIn]

/-! ## The step, in its cases -/

/-- All that a step can answer: a refusal where nothing is built; a next state that joins the two parts while one goes
on; the one fault, or the first of two in the order of R272, where none does; the same state where none steps. -/
theorem step_cases (s : State) :
    (s.cfg.legal = false ∧ step s = .refused .misconfigured) ∨
    (s.cfg.legal = true ∧ (goesOn s.outPart || goesOn s.inPart) = true ∧
      step s = .next ((s.ticked.adoptOut s.outPart).adoptIn s.inPart)) ∨
    (∃ f, (s.outPart = some (.fault f) ∧ s.inPart = none ∨ s.outPart = none ∧ s.inPart = some (.fault f) ∨
        ∃ g h, s.outPart = some (.fault g) ∧ s.inPart = some (.fault h) ∧ f = firstFault g h) ∧
      step s = .fault f) ∨
    (s.cfg.legal = true ∧ s.outPart = none ∧ s.inPart = none ∧ step s = .next s) := by
  cases hc : s.cfg.legal with
  | false => exact .inl ⟨rfl, by simp [step, State.advance, hc]⟩
  | true =>
    have hs : step s = s.join s.outPart s.inPart := by simp [step, State.advance, hc]
    rw [hs]
    unfold State.join
    cases hg : goesOn s.outPart || goesOn s.inPart with
    | true => exact .inr (.inl ⟨rfl, rfl, by simp⟩)
    | false =>
      simp only [Bool.or_eq_false_iff] at hg
      rcases ho : s.outPart with _ | (a | f | q)
      · rcases hi : s.inPart with _ | (b | g | q)
        · exact .inr (.inr (.inr ⟨rfl, rfl, rfl, by simp⟩))
        · simp [hi, goesOn] at hg
        · exact .inr (.inr (.inl ⟨g, .inr (.inl ⟨rfl, rfl⟩), by simp⟩))
        · exact absurd hi (inPart_not_refused s q)
      · simp [ho, goesOn] at hg
      · rcases hi : s.inPart with _ | (b | g | q)
        · exact .inr (.inr (.inl ⟨f, .inl ⟨rfl, rfl⟩, by simp⟩))
        · simp [hi, goesOn] at hg
        · exact .inr (.inr (.inl ⟨_, .inr (.inr ⟨f, g, rfl, rfl, rfl⟩), by simp [raise]⟩))
        · exact absurd hi (inPart_not_refused s q)
      · exact absurd ho (outPart_not_refused s q)

/-- While the OUT instance goes on, the step answers a next state with its part. -/
theorem step_of_outPart {s a : State} (h : s.outPart = some (.next a)) :
    step s = .next ((s.ticked.takeOut a).adoptIn s.inPart) := by
  rcases step_cases s with ⟨hc, -⟩ | ⟨-, -, hs⟩ | ⟨f, ⟨h', -⟩ | ⟨h', -⟩ | ⟨_, _, h', -⟩, -⟩ | ⟨-, h', -⟩
  · have : ¬ s.outLive := fun hl => by simp [Cfg.legal, hl.1] at hc
    simp [outPart_none this] at h
  · simpa [h, State.adoptOut] using hs
  all_goals simp [h] at h'

/-- While the IN instance goes on, the step answers a next state with its part. -/
theorem step_of_inPart {s b : State} (h : s.inPart = some (.next b)) :
    step s = .next ((s.ticked.adoptOut s.outPart).takeIn b) := by
  rcases step_cases s with ⟨hc, -⟩ | ⟨-, -, hs⟩ | ⟨f, ⟨-, h'⟩ | ⟨-, h'⟩ | ⟨_, _, -, h', -⟩, -⟩ | ⟨-, -, h', -⟩
  · have : ¬ s.inLive := fun hl => by simp [Cfg.legal, hl.1] at hc
    simp [inPart_none this] at h
  · simpa [h, State.adoptIn] using hs
  all_goals simp [h] at h'

/-- A reset tick of the OUT instance resets it, whatever else holds (R102, R272). -/
theorem step_out_reset {s : State} (h : s.outLive) (hr : s.openTick.inp.rst = true) :
    step s = .next ((s.ticked.takeOut s.openTick.resetDone).adoptIn s.inPart) :=
  step_of_outPart (by rw [outPart_live h, hr]; rfl)

/-- A tick of the OUT instance without reset and without fault answers a next state. -/
theorem step_out_next {s : State} (h : s.outLive) (hr : s.openTick.inp.rst = false)
    (hf : s.openTick.outTickFault = none) :
    step s = .next ((s.ticked.takeOut s.openTick.outTickDone).adoptIn s.inPart) :=
  step_of_outPart (by rw [outPart_live h, hr, hf]; rfl)

theorem step_in_reset {s : State} (h : s.inLive) (hr : s.openTick.inp.inRst = true) :
    step s = .next ((s.ticked.adoptOut s.outPart).takeIn s.openTick.forIn.resetDone) :=
  step_of_inPart (by rw [inPart_live h, hr]; rfl)

theorem step_in_next {s : State} (h : s.inLive) (hr : s.openTick.inp.inRst = false)
    (hf : s.openTick.inTickFault = none) :
    step s = .next ((s.ticked.adoptOut s.outPart).takeIn s.openTick.forIn.inTickDone) :=
  step_of_inPart (by rw [inPart_live h, hr, hf]; rfl)

/-- Whatever the step answers, the OUT instance one step later is what its own part leaves of it (R49). -/
theorem afterStep_sameOut (s : State) : (s.adoptOut s.outPart).sameOut s.afterStep := by
  have ht : s.sameOut s.ticked := ⟨rfl, rfl, rfl, rfl, rfl, rfl, rfl⟩
  rcases step_cases s with ⟨hc, hs⟩ | ⟨-, -, hs⟩ | ⟨f, -, hs⟩ | ⟨-, h, -, hs⟩
  · have : ¬ s.outLive := fun hl => by simp [Cfg.legal, hl.1] at hc
    simp only [State.afterStep, hs, outPart_none this, State.adoptOut]
    exact ⟨rfl, rfl, rfl, rfl, rfl, rfl, rfl⟩
  · simp only [State.afterStep, hs]
    exact (State.adoptOut_congr _ ht).trans (State.adoptIn_frame _ _).2.2.2.2
  · simp only [State.afterStep, hs]
    exact (State.adoptIn_frame _ _).2.2.2.2
  · simp only [State.afterStep, hs, h, State.adoptOut]
    exact ⟨rfl, rfl, rfl, rfl, rfl, rfl, rfl⟩

/-- Whatever the step answers, the IN instance one step later is what its own part leaves of it. -/
theorem afterStep_sameIn (s : State) : (s.adoptIn s.inPart).sameIn s.afterStep := by
  rcases step_cases s with ⟨hc, hs⟩ | ⟨-, -, hs⟩ | ⟨f, -, hs⟩ | ⟨-, -, h, hs⟩
  · have : ¬ s.inLive := fun hl => by simp [Cfg.legal, hl.1] at hc
    simp only [State.afterStep, hs, inPart_none this, State.adoptIn]
    exact ⟨rfl, rfl, rfl, rfl, rfl⟩
  · simp only [State.afterStep, hs]
    exact State.adoptIn_congr _ ((show s.sameIn s.ticked from ⟨rfl, rfl, rfl, rfl, rfl⟩).trans
      (State.adoptOut_frame _ _).2.2.2.2)
  · simp only [State.afterStep, hs]
    exact State.adoptIn_congr _ (State.adoptOut_frame _ _).2.2.2.2
  · simp only [State.afterStep, hs, h, State.adoptIn]
    exact ⟨rfl, rfl, rfl, rfl, rfl⟩

/-! ## What the closed forms leave, field by field -/

@[simp] theorem State.resetDone_cfg (s : State) : s.resetDone.cfg = s.cfg := rfl
@[simp] theorem State.resetDone_regs (s : State) : s.resetDone.regs = s.regs.afterReset := rfl
@[simp] theorem State.resetDone_out (s : State) : s.resetDone.out = s.out.forcedIdle s.draws := rfl
@[simp] theorem State.resetDone_inp (s : State) : s.resetDone.inp = s.inp := rfl
@[simp] theorem State.resetDone_script (s : State) : s.resetDone.script = s.script := rfl
@[simp] theorem State.resetDone_outFault (s : State) : s.resetDone.outFault = s.outFault := rfl
@[simp] theorem State.resetDone_inFault (s : State) : s.resetDone.inFault = s.inFault := rfl
@[simp] theorem State.resetDone_draws (s : State) : s.resetDone.draws = s.draws + 1 := rfl

/-- OUTEP's registers and outputs after a tick (R197). -/
theorem State.outTickDone_outep (s : State) (hc : s.cfg.outSide = .outep) :
    let r := outepTick s.cfg s.regs s.inp (Config.freeBdData s.draws)
    s.outTickDone.regs.tf = r.tf ∧ s.outTickDone.regs.bd = r.bd ∧
      s.outTickDone.regs.expectedDataToggle = r.toggle ∧ s.outTickDone.out = s.outepDone.out := by
  unfold State.outTickDone State.outDone
  simp [hc, State.outepDone, State.closeTick]

/-- The registers after a tick of a standalone TFIFO (R125). -/
theorem State.outTickDone_tfifo (s : State) (hc : s.cfg.outSide = .tfifoAlone) :
    s.outTickDone.regs.tf = tfTick s.cfg.bufDepth s.regs.tf
      ⟨s.inp.we, s.inp.wd, s.inp.wc, s.inp.wdis, s.inp.re, s.inp.rc, s.inp.rdis⟩ ∧
    s.outTickDone.regs.bd = s.nxt.bd ∧ s.outTickDone.regs.expectedDataToggle = s.nxt.expectedDataToggle ∧
    s.outTickDone.out = s.out := by
  unfold State.outTickDone State.outDone
  simp [hc, State.closeTick]

/-- INEP's registers after a tick that has just opened (R225); `prev_offer` from the outputs presented. -/
theorem State.inTickDone_inep (s : State) (ho : s.out.inp.pReady = s.regs.inep.ready) :
    s.inTickDone.regs.inep = inepTick s.cfg s.regs.inep s.inp s.inepIn ∧
    s.inTickDone.out.inp = s.inepDone.out.inp ∧ s.inTickDone.out.mb = s.out.mb := by
  unfold State.inTickDone State.watchOffers State.inDone
  cases h2 : s.cfg.inSide <;>
    simp [h2, State.inepDone, State.mbinDone, State.closeTick, State.schedInep, State.schedMb,
      State.inepIn, State.inepOffer, inepTick, ho, State.targetingIn]

/-- MBIN's registers after a tick (R253). -/
theorem State.inTickDone_mb (s : State) (hc : s.cfg.inSide = .mbin) (ho : s.out.mb = mbPorts s.cfg s.regs s.draws) :
    s.inTickDone.regs.mb = mbinTick s.cfg s.regs.mb s.inp s.regs.inep.ready := by
  unfold State.inTickDone State.watchOffers State.inDone
  rcases hm : s.regs.mb.mbState with _ | _ <;>
    simp [hc, State.inepDone, State.mbinDone, State.closeTick, State.schedInep, State.schedMb,
      State.mbinOffer, State.word, mbinTick, ho, mbPorts, hm, Mbin.cntZero]

/-- Without an MBIN its registers keep what was scheduled. -/
theorem State.inTickDone_noMb (s : State) (hc : s.cfg.inSide = .inep) : s.inTickDone.regs.mb = s.nxt.mb := by
  unfold State.inTickDone State.watchOffers State.inDone
  simp [hc, State.inepDone, State.closeTick, State.schedInep]

end Sys2Proof.Machine
end

