-- ==== Sys2Proof/Tests/Slice0.lean ====
section
/-! SUPPORT. Tests: ill-formed terms the checks refuse, words written out from the encoding tables, single steps with the
expected results of 95_test_vectors.md, and a witness for every set of hypotheses of the obligations. -/

namespace Sys2Proof.Tests

open Sys2Proof.Machine

/-! ## Helpers -/

/-- A state of a configuration with given registers whose next tick reads one line. -/
def place (c : Cfg) (r : Regs) (l : Line) : State := { State.resetOf c with regs := r, nxt := r, script := [l] }

/-- The step answers a next state that satisfies `p`. -/
def ran (s : State) (p : State → Bool) : Bool :=
  match step s with
  | .next t => p t
  | _ => false

/-- The machine's step ends in this fault. -/
def stops (s : State) (f : Fault) : Bool :=
  match step s with
  | .fault g => g == f
  | _ => false

/-- The OUT instance takes this fault in the next tick. -/
def outFaults (s : State) (f : Fault) : Bool := s.afterStep.outFault == some f

/-- The IN instance takes this fault in the next tick. -/
def inFaults (s : State) (f : Fault) : Bool := s.afterStep.inFault == some f

/-- The registers after reset. -/
def r0 : Regs := Regs.reset

/-- A TFIFO with the given indices and entries. -/
def tf (crp nRc nC nS : Nat) (mem : Cells Entry := []) : Regs :=
  { r0 with tf := { mem := mem, crp := crp, nRc := nRc, nC := nC, nS := nS } }

/-- The TFIFO indices of a state, as 95_test_vectors.md writes them. -/
def tfOf (t : State) : Nat × Nat × Nat × Nat := (t.regs.tf.crp, t.regs.tf.nRc, t.regs.tf.nC, t.regs.tf.nS)

/-- The given registers with a BD. -/
def withBd (r : Regs) (hv : Bool) (hd : Byte) (isf : Bool) : Regs :=
  { r with bd := { holdValid := hv, holdData := hd, isFirstByte := isf } }

/-- The BD of a state, as 95_test_vectors.md writes it. -/
def bdOf (t : State) : Bool × Byte × Bool := (t.regs.bd.holdValid, t.regs.bd.holdData, t.regs.bd.isFirstByte)

/-- The given registers with an expected toggle. -/
def withToggle (r : Regs) (b : Bool) : Regs := { r with expectedDataToggle := b }

/-- An INEP as 95_test_vectors.md writes it. -/
def inep (len : Nat) (st z act : Bool) (idx : Nat) (aw tog : Bool) (pbuf : Cells Byte := []) : Regs :=
  { r0 with inep := { inToggle := tog, pbuf := pbuf, fillLen := len, staged := st, zlpPending := z, txActive := act,
                      txIdx := idx, awaitingAck := aw, prevOffer := none } }

/-- The INEP of a state, as 95_test_vectors.md writes it. -/
def inepOf (t : State) : Nat × Bool × Bool × Bool × Nat × Bool × Bool :=
  let n := t.regs.inep
  (n.fillLen, n.staged, n.zlpPending, n.txActive, n.txIdx, n.awaitingAck, n.inToggle)

/-- The given registers with an MBIN in TRANSMIT. -/
def sending (r : Regs) (sh cnt : Nat) (first last : Bool) : Regs :=
  { r with mb := { mbState := .transmit, shreg := sh, cnt := cnt, latFirst := first, latLast := last,
                   prevOffer := none } }

/-- 2.1: a standalone TFIFO of depth 4, and no IN instance. -/
def cTf : Cfg :=
  { hasIn := false, outSide := .tfifoAlone, inSide := .inep, outEp := 1, outMps := 2, bufDepth := 4, inEp := 2, inMps := 4,
    wordBytes := 1 }

/-- 2.2, 2.3, 2.4: OUTEP with `EP_NUM = 1, MPS = 8, BUF_DEPTH = 16`. -/
def cOut : Cfg :=
  { outSide := .outep, inSide := .inep, outEp := 1, outMps := 8, bufDepth := 16, inEp := 2, inMps := 4, wordBytes := 1 }

/-- 2.6: MBIN with `W = 4`, inner `EP_NUM = 2, MPS = 8`. -/
def cMb : Cfg :=
  { outSide := .outep, inSide := .mbin, outEp := 1, outMps := 8, bufDepth := 16, inEp := 2, inMps := 8, wordBytes := 4 }

/-- A line under an OUT token to endpoint 1. -/
def toOut (l : Line) : Line := { l with tokEp := some 1#4, tokOut := some true, tokIn := some false }

/-- A line under an IN token to endpoint 2. -/
def toIn (l : Line) : Line := { l with tokEp := some 2#4, tokOut := some false, tokIn := some true }

/-- A valid verdict with its DATA request. -/
def verdictOk : Line := { rxComplete := true, dataReq := true }

/-! ## WellFormed: each check refuses a term that breaks it alone -/

theorem test_cfg_scenario_built : Cfg.scenario.outBuilt = true ∧ Cfg.scenario.inBuilt = true := by decide

theorem test_cfg_bad_endpoint : Cfg.outLegal { Cfg.scenario with outEp := 16 } = false ∧
    Cfg.inLegal { Cfg.scenario with inEp := 16 } = false := by decide

theorem test_cfg_bad_direction : Cfg.outLegal { Cfg.scenario with outDir := .dirIn } = false ∧
    Cfg.inLegal { Cfg.scenario with inDir := .dirOut } = false := by decide

theorem test_cfg_bad_mps : Cfg.outLegal { Cfg.scenario with outMps := 0 } = false ∧
    Cfg.inLegal { Cfg.scenario with inMps := 0 } = false := by decide

theorem test_cfg_bad_depth : Cfg.outLegal { Cfg.scenario with bufDepth := 7 } = false ∧
    Cfg.outLegal { cTf with bufDepth := 0 } = false ∧ Cfg.outLegal { cTf with bufDepth := 1 } = true := by decide

theorem test_cfg_bad_width : Cfg.inLegal { Cfg.scenario with wordBytes := 0 } = false ∧
    Cfg.inLegal { Cfg.scenario with wordBytes := 0, inSide := .inep } = true := by decide

/-- R296, R49: a refused IN instance leaves the OUT instance its machine. -/
theorem test_cfg_one_refused : ran (place { cOut with inMps := 0 } r0 { rxNext := true, rxData := 0x10#8 })
    (fun t => bdOf t == (true, 0x10#8, true)) = true ∧
    (State.resetOf { cOut with inMps := 0, bufDepth := 7 }).cfg.legal = false := by decide

theorem test_event_too_wide : Event.wf ⟨.bd, 0x10#8⟩ = false ∧ decode ⟨.bd, 0x10#8⟩ = .error .bitsAboveVector := by
  decide

theorem test_illegal_row_is_no_operation : Instr.wf .illegalTfMf5 = false ∧ Instr.wf .tfWrite = true := by decide

theorem test_event_without_row : decode ⟨.inAck, 0x6#8⟩ = .error .noRow := by decide

/-! ## Decode: every row's word as the tables of R92-R102 write it -/

theorem test_words_tf :
    decode ⟨.tf, 0x01#8⟩ = .ok [.tfWrite] ∧ decode ⟨.tf, 0x03#8⟩ = .ok [.tfWriteFull] ∧
    decode ⟨.tf, 0x04#8⟩ = .ok [.tfWriteCommit] ∧ decode ⟨.tf, 0x08#8⟩ = .ok [.tfWriteDiscard] ∧
    decode ⟨.tf, 0x10#8⟩ = .ok [.tfRead] ∧ decode ⟨.tf, 0x30#8⟩ = .ok [.tfReadEmpty] ∧
    decode ⟨.tf, 0x40#8⟩ = .ok [.tfReadCommit] ∧ decode ⟨.tf, 0x80#8⟩ = .ok [.tfReadDiscard] ∧
    decode ⟨.tf, 0x00#8⟩ = .ok [.tfNop] ∧ decode ⟨.tf, 0x0C#8⟩ = .ok [.illegalTfMf5] ∧
    decode ⟨.tf, 0xC0#8⟩ = .ok [.illegalTfMf6] := by
  decide

theorem test_words_bd :
    decode ⟨.bd, 0x0#8⟩ = .ok [.bdIdle] ∧ decode ⟨.bd, 0x1#8⟩ = .ok [.bdCapture] ∧
    decode ⟨.bd, 0x9#8⟩ = .ok [.bdRelay] ∧ decode ⟨.bd, 0xA#8⟩ = .ok [.bdEndComplete] ∧
    decode ⟨.bd, 0x2#8⟩ = .ok [.bdEndCompleteEmpty] ∧ decode ⟨.bd, 0xC#8⟩ = .ok [.bdEndInvalid] ∧
    decode ⟨.bd, 0x4#8⟩ = .ok [.bdEndInvalidEmpty] ∧
    decode ⟨.bd, 0x6#8⟩ = .ok [.illegalBdMf1CompleteInvalid] ∧
    decode ⟨.bd, 0x3#8⟩ = .ok [.illegalBdMf2NextComplete] ∧
    decode ⟨.bd, 0x5#8⟩ = .ok [.illegalBdMf2NextInvalid] := by
  decide

theorem test_words_outResp :
    decode ⟨.outResp, 0x1D#8⟩ = .ok [.outDataAccept] ∧ decode ⟨.outResp, 0x05#8⟩ = .ok [.outDataSkip] ∧
    decode ⟨.outResp, 0x15#8⟩ = .ok [.outDataNak] ∧ decode ⟨.outResp, 0x1E#8⟩ = .ok [.outPingAck] ∧
    decode ⟨.outResp, 0x06#8⟩ = .ok [.outPingNakNospace] ∧
    decode ⟨.outResp, 0x0E#8⟩ = .ok [.outPingNakPidmismatch] ∧
    decode ⟨.outResp, 0x01#8⟩ = .ok [.outDataNotTargeted] ∧
    decode ⟨.outResp, 0x02#8⟩ = .ok [.outPingNotTargeted] ∧ decode ⟨.outResp, 0x00#8⟩ = .ok [.outRespIdle] ∧
    decode ⟨.outResp, 0x03#8⟩ = .ok [.illegalOutrespMf3] := by
  decide

theorem test_words_outRx_outStr :
    decode ⟨.outRx, 0x3#8⟩ = .ok [.outRxWrite] ∧ decode ⟨.outRx, 0x1#8⟩ = .ok [.outRxDrop] ∧
    decode ⟨.outRx, 0x4#8⟩ = .ok [.outRxCommit] ∧ decode ⟨.outRx, 0x8#8⟩ = .ok [.outRxDiscard] ∧
    decode ⟨.outStr, 0x3#8⟩ = .ok [.outStreamXfer] ∧ decode ⟨.outStr, 0x1#8⟩ = .ok [.outStreamWait] ∧
    decode ⟨.outStr, 0x0#8⟩ = .ok [.outStreamEmpty] := by
  decide

theorem test_words_inFill_inTok :
    decode ⟨.inFill, 0x0#8⟩ = .ok [.inFillIdle] ∧ decode ⟨.inFill, 0x1#8⟩ = .ok [.inFillByte] ∧
    decode ⟨.inFill, 0x3#8⟩ = .ok [.inCloseShort] ∧ decode ⟨.inFill, 0x5#8⟩ = .ok [.inCloseFull] ∧
    decode ⟨.inFill, 0x7#8⟩ = .ok [.inCloseFullLast] ∧
    decode ⟨.inTok, 0x00#8⟩ = .ok [.inTokIdle] ∧ decode ⟨.inTok, 0x01#8⟩ = .ok [.inReqNotTargeted] ∧
    decode ⟨.inTok, 0x07#8⟩ = .ok [.inSendData] ∧ decode ⟨.inTok, 0x0B#8⟩ = .ok [.inSendZlp] ∧
    decode ⟨.inTok, 0x03#8⟩ = .ok [.inNak] ∧ decode ⟨.inTok, 0x13#8⟩ = .ok [.illegalIntokMf9] := by
  decide

theorem test_words_inTx_inAck :
    decode ⟨.inTx, 0x0#8⟩ = .ok [.inTxIdle] ∧ decode ⟨.inTx, 0x1#8⟩ = .ok [.inTxWait] ∧
    decode ⟨.inTx, 0x3#8⟩ = .ok [.inTxByte] ∧ decode ⟨.inTx, 0x7#8⟩ = .ok [.inTxLast] ∧
    decode ⟨.inAck, 0x7#8⟩ = .ok [.inAckData] ∧ decode ⟨.inAck, 0x3#8⟩ = .ok [.inAckZlp] ∧
    decode ⟨.inAck, 0x1#8⟩ = .ok [.inAckIgnored] := by
  decide

theorem test_words_mb_rst :
    decode ⟨.mb, 0x0#8⟩ = .ok [.mbIdleWait] ∧ decode ⟨.mb, 0x2#8⟩ = .ok [.mbLoad] ∧
    decode ⟨.mb, 0x1#8⟩ = .ok [.mbHold] ∧ decode ⟨.mb, 0x5#8⟩ = .ok [.mbShift] ∧
    decode ⟨.mb, 0xF#8⟩ = .ok [.mbReload] ∧ decode ⟨.mb, 0xD#8⟩ = .ok [.mbFinish] ∧
    decode ⟨.rst, 0x1#8⟩ = .ok [.reset] ∧ decode ⟨.rst, 0x0#8⟩ = .error .noRow := by
  decide

/-- Values that 95_test_vectors.md lists with bits outside the masks set. -/
theorem test_vector_values :
    decode ⟨.tf, 0x25#8⟩ = .ok [.tfWrite, .tfWriteCommit] ∧ decode ⟨.tf, 0x29#8⟩ = .ok [.tfWrite, .tfWriteDiscard] ∧
    decode ⟨.tf, 0x90#8⟩ = .ok [.tfRead, .tfReadDiscard] ∧
    decode ⟨.tf, 0x53#8⟩ = .ok [.tfWriteFull, .tfRead, .tfReadCommit] ∧
    decode ⟨.outResp, 0x19#8⟩ = .ok [.outDataNotTargeted] ∧ decode ⟨.outResp, 0x1C#8⟩ = .ok [.outRespIdle] ∧
    decode ⟨.outRx, 0x5#8⟩ = .ok [.outRxDrop, .outRxCommit] ∧ decode ⟨.inTok, 0x05#8⟩ = .ok [.inReqNotTargeted] ∧
    decode ⟨.mb, 0x6#8⟩ = .ok [.mbLoad] := by
  decide

/-- The table's words do not name their vector (log 10): the first row with the word answers. -/
theorem test_table_word : decodeTableWord 8 0x1D = some .outDataAccept ∧ decodeTableWord 8 0x40 = some .tfReadCommit ∧
    decodeTableWord 8 0x100 = none := by
  decide

theorem test_fetch_word_runs :
    ran (State.reset.withFetchWord 8 0x1D) (fun t => t.out.outp.hsAck && t.regs.expectedDataToggle) = true := by
  decide

/-- R89, R90: PID bytes on the wire, and bit 3 as the toggle (R88). -/
theorem test_pid_bytes : Pid.out.byte = 0xE1#8 ∧ Pid.data0.byte = 0xC3#8 ∧ Pid.data1.byte = 0x4B#8 ∧
    Pid.ack.byte = 0xD2#8 ∧ Pid.ping.byte = 0xB4#8 ∧ Pid.data0.toggle = false ∧ Pid.data1.toggle = true := by
  decide

/-- R108: a token sets its levels from the next tick on, a packet is its byte ticks and its verdict tick. -/
theorem test_script_macros : expand [.tokenOut 1#4, .rxOk false [0x10#8], .hack] =
    [{ tokEp := some 1#4, tokOut := some true, tokIn := some false, rxNext := true, rxData := 0x10#8,
       rxPidToggle := some false },
     { rxComplete := true, dataReq := true }, { hsInAck := true }] := by
  decide

/-- R108: `RXPKT p [] BAD` is one tick `rx_invalid = 1`, and the PID level stays; `RXPKT p [] OK` presents its PID. -/
theorem test_script_empty_packets : expand [.rxBad true [], .rxOk true [], .rxBad true [0x10#8]] =
    [{ rxInvalid := true }, { rxComplete := true, dataReq := true, rxPidToggle := some true },
     { rxNext := true, rxData := 0x10#8, rxPidToggle := some true }, { rxInvalid := true }] := by
  decide

/-! ## TFIFO, 2.1 -/

theorem test_tf1_write : ran (place cTf (tf 0 0 0 0) { we := true, wd := 0x2AB#10 })
    (fun t => tfOf t == (0, 0, 0, 1) && t.regs.tf.mem == [(0, 0x2AB#10)]) = true := by decide

theorem test_tf10_write_wraps : ran (place cTf (tf 3 0 1 0) { we := true, wd := 0x155#10, wc := true, re := true, rc := true })
    (fun t => tfOf t == (0, 0, 1, 0) && t.regs.tf.mem == [(0, 0x155#10)]) = true := by decide

theorem test_tf2_commit : ran (place cTf (tf 0 0 0 3) { we := true, wc := true })
    (fun t => tfOf t == (0, 0, 4, 0)) = true := by decide

theorem test_tf11_commit_read_empty : ran (place cTf (tf 0 0 0 2) { re := true, wc := true })
    (fun t => tfOf t == (0, 0, 2, 0)) = true := by decide

theorem test_tf3_discard : ran (place cTf (tf 0 0 0 3) { we := true, wdis := true })
    (fun t => tfOf t == (0, 0, 0, 0)) = true := by decide

theorem test_tf4_write_full : stops (place cTf (tf 0 0 2 2) { we := true }) .overrun = true := by decide

theorem test_tf16_read_commit_makes_no_room :
    stops (place { cTf with outMps := 1, bufDepth := 1 } (tf 0 0 1 0) { we := true, re := true, rc := true }) .overrun
      = true := by decide

theorem test_tf6_read : ran (place cTf (tf 0 0 2 0 [(0, 0x201#10)]) { re := true })
    (fun t => tfOf t == (0, 1, 2, 0) && t.out.tf.readData == 0x201#10 && t.out.tf.spaceAvailable == 2) = true := by decide

theorem test_tf7_read_commit : ran (place cTf (tf 0 0 2 0) { re := true, rc := true })
    (fun t => tfOf t == (1, 0, 1, 0)) = true := by decide

theorem test_tf13_read_commit_wraps : ran (place cTf (tf 2 3 3 0) { rc := true })
    (fun t => tfOf t == (1, 0, 0, 0)) = true := by decide

theorem test_tf8_unread : ran (place cTf (tf 1 1 2 0) { re := true, rdis := true })
    (fun t => tfOf t == (1, 0, 2, 0)) = true := by decide

theorem test_tf12_unread_all : ran (place cTf (tf 2 3 3 0) { rdis := true })
    (fun t => tfOf t == (2, 0, 3, 0)) = true := by decide

theorem test_tf9_read_empty : ran (place cTf (tf 1 2 2 0) { re := true })
    (fun t => tfOf t == (1, 2, 2, 0) && t.out.tf.empty) = true := by decide

theorem test_tf19_nop : ran (place cTf (tf 0 0 0 0) {}) (fun t => tfOf t == (0, 0, 0, 0) && t.out.tf.empty) = true := by
  decide

theorem test_tf17_commit_and_discard : stops (place cTf (tf 0 0 0 0) { wc := true, wdis := true }) .commitAndDiscard
    = true := by decide

theorem test_tf18_commit_and_unread : stops (place cTf (tf 0 0 0 0) { rc := true, rdis := true }) .commitAndUnread
    = true := by decide

/-! ## BD, 2.2 -/

theorem test_bd1_capture : ran (place cOut r0 { rxNext := true, rxData := 0x10#8 })
    (fun t => bdOf t == (true, 0x10#8, true) && !t.out.bd.bdNext) = true := by decide

theorem test_bd2_relay : ran (place cOut (withBd r0 true 0x10#8 true) { rxNext := true, rxData := 0x11#8 })
    (fun t => bdOf t == (true, 0x11#8, false) && t.out.bd.bdNext && t.out.bd.bdData == 0x10#8 && t.out.bd.bdFirst &&
      !t.out.bd.bdLast) = true := by decide

theorem test_bd3_relay_not_first : ran (place cOut (withBd r0 true 0x11#8 false) { rxNext := true, rxData := 0x12#8 })
    (fun t => bdOf t == (true, 0x12#8, false) && t.out.bd.bdData == 0x11#8 && !t.out.bd.bdFirst) = true := by decide

theorem test_bd4_end : ran (place cOut (withBd r0 true 0x17#8 false) { rxComplete := true })
    (fun t => bdOf t == (false, 0x17#8, true) && t.out.bd.bdData == 0x17#8 && !t.out.bd.bdFirst && t.out.bd.bdLast &&
      t.out.bd.bdComplete) = true := by decide

theorem test_bd5_one_byte_packet : ran (place cOut (withBd r0 true 0x55#8 true) { rxComplete := true })
    (fun t => bdOf t == (false, 0x55#8, true) && t.out.bd.bdFirst && t.out.bd.bdLast) = true := by decide

theorem test_bd6_end_empty : ran (place cOut r0 { rxComplete := true })
    (fun t => !t.out.bd.bdNext && t.out.bd.bdComplete && t.regs.bd.isFirstByte) = true := by decide

theorem test_bd7_invalid : ran (place cOut (withBd r0 true 0x33#8 false) { rxInvalid := true })
    (fun t => bdOf t == (false, 0x33#8, true) && t.out.bd.bdData == 0x33#8 && t.out.bd.bdLast && t.out.bd.bdInvalid)
      = true := by decide

theorem test_bd8_invalid_empty : ran (place cOut r0 { rxInvalid := true })
    (fun t => !t.out.bd.bdNext && t.out.bd.bdInvalid && t.regs.bd.isFirstByte) = true := by decide

theorem test_bd9_idle : ran (place cOut (withBd r0 true 0x41#8 false) {})
    (fun t => bdOf t == (true, 0x41#8, false) && !t.out.bd.bdNext) = true := by decide

theorem test_bd10_byte_with_verdict : outFaults (place cOut r0 { rxNext := true, rxComplete := true }) .byteWithVerdict
    = true := by decide

theorem test_bd10_byte_with_invalid : outFaults (place cOut r0 { rxNext := true, rxInvalid := true }) .byteWithVerdict
    = true := by decide

theorem test_bd12_both_verdicts_first :
    outFaults (place cOut r0 { rxNext := true, rxComplete := true, rxInvalid := true }) .bothVerdicts = true := by decide

/-! ## OUTEP, 2.3 and 2.4 -/

theorem test_or1_accept : ran (place cOut (withBd (tf 0 0 0 7) true 0x17#8 false) (toOut verdictOk))
    (fun t => t.out.outp.hsAck && !t.out.outp.hsNak && t.regs.expectedDataToggle && tfOf t == (0, 0, 8, 0) &&
      t.regs.tf.mem == [(7, 0x117#10)]) = true := by decide

theorem test_or5_accept_at_mps : ran (place cOut (withBd (tf 0 0 8 0) true 0x99#8 true) (toOut verdictOk))
    (fun t => t.out.outp.hsAck && t.regs.expectedDataToggle && tfOf t == (0, 0, 9, 0) &&
      t.regs.tf.mem == [(8, 0x399#10)]) = true := by decide

theorem test_or2_skip : ran (place cOut (withToggle (withBd (tf 0 0 8 0) true 0x17#8 false) true) (toOut verdictOk))
    (fun t => t.out.outp.hsAck && t.regs.expectedDataToggle && tfOf t == (0, 0, 8, 0)) = true := by decide

theorem test_or3_skip_when_full : ran (place cOut (withToggle (tf 0 0 16 0) true) (toOut verdictOk))
    (fun t => t.out.outp.hsAck && tfOf t == (0, 0, 16, 0)) = true := by decide

theorem test_or4_nak : ran (place cOut (withBd (tf 0 0 9 0) true 0x20#8 true) (toOut verdictOk))
    (fun t => t.out.outp.hsNak && !t.out.outp.hsAck && !t.regs.expectedDataToggle && tfOf t == (0, 0, 9, 0)) = true := by
  decide

theorem test_or6_ping_ack : ran (place cOut (withToggle (tf 0 0 8 0) true)
      (toOut { pingReq := true, rxPidToggle := some true }))
    (fun t => t.out.outp.hsAck && t.regs.expectedDataToggle) = true := by decide

theorem test_or7_ping_nospace : ran (place cOut (withToggle (tf 0 0 9 0) true)
      (toOut { pingReq := true, rxPidToggle := some true }))
    (fun t => t.out.outp.hsNak && !t.out.outp.hsAck) = true := by decide

theorem test_or8_ping_mismatch : ran (place cOut (withToggle r0 true) (toOut { pingReq := true }))
    (fun t => t.out.outp.hsNak && !t.out.outp.hsAck) = true := by decide

theorem test_or9_data_other_endpoint : ran (place cOut r0 { toOut { dataReq := true } with tokEp := some 2#4 })
    (fun t => !t.out.outp.hsNak && !t.out.outp.hsAck && !t.regs.expectedDataToggle) = true := by decide

theorem test_or10_data_in_token : ran (place cOut r0 { verdictOk with tokEp := some 1#4, tokIn := some true })
    (fun t => !t.out.outp.hsNak && !t.out.outp.hsAck && !t.regs.expectedDataToggle) = true := by decide

theorem test_or11_ping_other_endpoint : ran (place cOut r0 { toOut { pingReq := true } with tokEp := some 3#4 })
    (fun t => !t.out.outp.hsNak && !t.out.outp.hsAck) = true := by decide

theorem test_or13_response_timing : outFaults (place cOut r0 (toOut { dataReq := true })) .responseTiming = true := by decide

theorem test_fp3_both_requests : outFaults (place cOut r0 (toOut { dataReq := true, pingReq := true })) .bothRequests
    = true := by decide

theorem test_or14_zero_length : ran (place cOut (withToggle r0 true) (toOut { verdictOk with rxPidToggle := some true }))
    (fun t => t.out.outp.hsAck && !t.regs.expectedDataToggle && tfOf t == (0, 0, 0, 0)) = true := by decide

theorem test_or15_write_and_discard : ran (place cOut (withBd (tf 0 0 0 4) true 0x33#8 false) (toOut { rxInvalid := true }))
    (fun t => !t.out.outp.hsAck && !t.out.outp.hsNak && tfOf t == (0, 0, 0, 0)) = true := by decide

theorem test_or16_drop : ran (place cOut (withBd (tf 0 0 0 3) true 0x44#8 false)
      { toOut { rxNext := true, rxData := 0x45#8 } with tokEp := some 2#4 })
    (fun t => tfOf t == (0, 0, 0, 3) && !t.out.tf.we && t.out.tf.wd == 0x044#10 && bdOf t == (true, 0x45#8, false)) = true := by decide

theorem test_os1_xfer : ran (place cOut (tf 0 0 8 0 [(0, 0x210#10)]) { sReady := some true })
    (fun t => t.out.outp.sValid && t.out.outp.sData == 0x10#8 && t.out.outp.sFirst && !t.out.outp.sLast &&
      tfOf t == (1, 0, 7, 0)) = true := by decide

theorem test_os2_wait : ran (place cOut (tf 0 0 8 0 [(0, 0x210#10)]) {})
    (fun t => t.out.outp.sValid && t.out.outp.sData == 0x10#8 && tfOf t == (0, 0, 8, 0)) = true := by decide

theorem test_os3_run_invisible : ran (place cOut (tf 0 0 0 5) { sReady := some true })
    (fun t => !t.out.outp.sValid && tfOf t == (0, 0, 0, 5)) = true := by decide

theorem test_os4_commit_and_read : ran (place cOut (withBd (tf 0 0 1 7 [(0, 0x3AA#10)]) true 0x17#8 false)
      (toOut { verdictOk with sReady := some true }))
    (fun t => t.out.outp.sData == 0xAA#8 && t.out.outp.sFirst && t.out.outp.sLast && t.out.outp.hsAck &&
      tfOf t == (1, 0, 8, 0) && t.regs.expectedDataToggle) = true := by decide

/-! ## INEP, 2.5 -/

theorem test_if1_fill : ran (place cOut (inep 1 false false false 0 false false)
      (toIn { pValid := some true, pData := some 0xA1 }))
    (fun t => inepOf t == (2, false, false, false, 0, false, false) && t.regs.inep.pbuf == [(1, 0xA1#8)]) = true := by
  decide

theorem test_if2_close_short : ran (place cOut (inep 1 false false false 0 false false)
      (toIn { pValid := some true, pData := some 0xA1, pLast := some true }))
    (fun t => inepOf t == (2, true, false, false, 0, false, false)) = true := by decide

theorem test_if3_close_full : ran (place cOut (inep 3 false false false 0 false false)
      (toIn { pValid := some true }))
    (fun t => inepOf t == (4, true, false, false, 0, false, false)) = true := by decide

theorem test_if4_close_full_last : ran (place cOut (inep 3 false false false 0 false false)
      (toIn { pValid := some true, pLast := some true }))
    (fun t => inepOf t == (4, true, true, false, 0, false, false)) = true := by decide

theorem test_if8_mps_1 : ran (place { cOut with inMps := 1 } r0 (toIn { pValid := some true, pLast := some true }))
    (fun t => inepOf t == (1, true, true, false, 0, false, false)) = true := by decide

theorem test_if6_fill_idle_pends : ran (place cOut (inep 4 true false false 0 false false)
      (toIn { pValid := some true, pData := some 0xB0 }))
    (fun t => inepOf t == (4, true, false, false, 0, false, false) && !t.out.inp.pReady &&
      t.regs.inep.prevOffer == some ⟨0xB0, false, false⟩) = true := by decide

theorem test_fp7_offer_retracted : inFaults (place cOut
      { r0 with inep := { r0.inep with staged := true, fillLen := 1, prevOffer := some ⟨0x5B, false, false⟩ } } {})
    .offerRetracted = true := by decide

/-- INEP with a packet staged and the byte 5B (first, not last) pending. -/
def pending (l : Line) : State :=
  place cOut { r0 with inep := { r0.inep with staged := true, fillLen := 1, prevOffer := some ⟨0x5B, true, false⟩ } } l

/-- MF8 (R270): the pending offer stands, or its payload, its `first` or its `last` changes. -/
theorem test_offer_changed :
    let l : Line := { pValid := some true, pData := some 0x5B, pFirst := some true, pLast := some false }
    ran (pending l) (fun t => t.inFault.isNone && t.regs.inep.prevOffer == some ⟨0x5B, true, false⟩) = true ∧
    inFaults (pending { l with pData := some 0x5C }) .offerRetracted = true ∧
    inFaults (pending { l with pFirst := some false }) .offerRetracted = true ∧
    inFaults (pending { l with pLast := some true }) .offerRetracted = true := by decide

theorem test_it1_send_data : ran (place cOut (inep 4 true false false 0 false false) (toIn { inReq := true }))
    (fun t => inepOf t == (4, true, false, true, 0, false, false) && !t.out.inp.hsNak && !t.out.inp.txValid) = true := by
  decide

theorem test_it8_retry : ran (place cOut (inep 4 true false false 0 true false) (toIn { inReq := true }))
    (fun t => inepOf t == (4, true, false, true, 0, false, false)) = true := by decide

theorem test_it3_send_zlp : ran (place cOut (inep 0 false true false 0 false true) (toIn { inReq := true }))
    (fun t => inepOf t == (0, false, true, false, 0, true, true) && t.out.inp.txZlp && t.out.inp.txPidToggle) = true := by
  decide

theorem test_it4_nak : ran (place cOut r0 (toIn { inReq := true }))
    (fun t => t.out.inp.hsNak && !t.out.inp.txZlp && inepOf t == inepOf State.reset) = true := by decide

theorem test_it5_partly_filled_nak : ran (place cOut (inep 2 false false false 0 false false) (toIn { inReq := true }))
    (fun t => t.out.inp.hsNak && inepOf t == (2, false, false, false, 0, false, false)) = true := by decide

theorem test_it6_other_endpoint : ran (place cOut (inep 4 true false false 0 false false)
      { toIn { inReq := true } with tokEp := some 3#4 })
    (fun t => inepOf t == (4, true, false, false, 0, false, false) && !t.out.inp.hsNak) = true := by decide

theorem test_it9_request_during_tx : inFaults (place cOut (inep 4 true false true 2 false false) (toIn { inReq := true }))
    .inReqDuringTx = true := by decide

/-- Four bytes A0 A1 A2 A3. -/
def four : Cells Byte := [(0, 0xA0#8), (1, 0xA1#8), (2, 0xA2#8), (3, 0xA3#8)]

theorem test_ix1_tx_byte : ran (place cOut (inep 4 true false true 0 false false four) { txReady := some true })
    (fun t => t.regs.inep.txIdx == 1 && t.out.inp.txValid && t.out.inp.txData == 0xA0#8 && t.out.inp.txFirst &&
      !t.out.inp.txLast) = true := by decide

theorem test_ix2_tx_wait : ran (place cOut (inep 4 true false true 1 false false four) {})
    (fun t => t.regs.inep.txIdx == 1 && t.out.inp.txData == 0xA1#8) = true := by decide

theorem test_ix3_tx_last : ran (place cOut (inep 4 true false true 3 false false four) { txReady := some true })
    (fun t => inepOf t == (4, true, false, false, 0, true, false) && t.out.inp.txData == 0xA3#8 && t.out.inp.txLast)
      = true := by decide

theorem test_ix4_one_byte : ran (place cOut (inep 1 true false true 0 false false [(0, 0x5A#8)]) { txReady := some true })
    (fun t => inepOf t == (1, true, false, false, 0, true, false) && t.out.inp.txFirst && t.out.inp.txLast) = true := by
  decide

theorem test_ia1_ack_data : ran (place cOut (inep 4 true false false 0 true false) (toIn { hsInAck := true }))
    (fun t => inepOf t == (0, false, false, false, 0, false, true)) = true := by decide

theorem test_ia2_ack_keeps_zlp : ran (place cOut (inep 4 true true false 0 true false) (toIn { hsInAck := true }))
    (fun t => inepOf t == (0, false, true, false, 0, false, true)) = true := by decide

theorem test_ia3_ack_zlp : ran (place cOut (inep 0 false true false 0 true true) (toIn { hsInAck := true }))
    (fun t => inepOf t == (0, false, false, false, 0, false, false)) = true := by decide

theorem test_ia4_ack_ignored : ran (place cOut (inep 4 true false false 0 false false) (toIn { hsInAck := true }))
    (fun t => inepOf t == (4, true, false, false, 0, false, false)) = true := by decide

theorem test_ia6_ack_during_tx : ran (place cOut (inep 4 true false true 1 false false four) (toIn { hsInAck := true }))
    (fun t => inepOf t == (4, true, false, true, 1, false, false)) = true := by decide

theorem test_ia7_request_with_ack : inFaults (place cOut r0 (toIn { inReq := true, hsInAck := true })) .inReqWithAck
    = true := by decide

theorem test_fp5_ack_before_tx_request : inFaults (place cOut (inep 4 true false true 2 false false)
    (toIn { inReq := true, hsInAck := true })) .inReqWithAck = true := by decide

/-! ## MBIN, 2.6 -/

theorem test_mb1_idle : ran (place cMb r0 {}) (fun t => t.regs.mb.mbState == .idle && t.out.mb.pReady &&
    !t.out.mb.iValid) = true := by decide

theorem test_mb2_load : ran (place cMb r0 { pValid := some true, pData := some 0x44332211, pFirst := some true })
    (fun t => t.regs.mb == (sending r0 0x44332211 3 true false).mb) = true := by decide

theorem test_mb3_shift : ran (place cMb (sending r0 0x44332211 3 true false) {})
    (fun t => t.regs.mb.shreg == 0x00443322 && t.regs.mb.cnt == 2 && t.out.mb.iData == 0x11#8 && t.out.mb.iFirst &&
      !t.out.mb.iLast && !t.out.mb.pReady && t.regs.inep.pbuf == [(0, 0x11#8)]) = true := by decide

theorem test_mb4_interior_byte : ran (place cMb (sending r0 0x00443322 2 true false) {})
    (fun t => t.regs.mb.cnt == 1 && t.out.mb.iData == 0x22#8 && !t.out.mb.iFirst) = true := by decide

theorem test_mb5_hold : ran (place cMb (sending (inep 8 true false false 0 false false) 0x4433 1 true false) {})
    (fun t => t.regs.mb.cnt == 1 && t.regs.mb.shreg == 0x4433 && t.out.mb.iValid && !t.out.mb.pReady) = true := by decide

theorem test_mb6_reload : ran (place cMb (sending r0 0x44 0 true false)
      { pValid := some true, pData := some 0x88776655, pLast := some true })
    (fun t => t.regs.mb == (sending r0 0x88776655 3 false true).mb && t.out.mb.iData == 0x44#8 && !t.out.mb.iLast && t.out.mb.pReady) = true := by decide

theorem test_mb7_finish : ran (place cMb (sending r0 0x88 0 false true) {})
    (fun t => t.regs.mb.mbState == .idle && t.out.mb.iData == 0x88#8 && t.out.mb.iLast && t.out.mb.pReady) = true := by
  decide

theorem test_mb9_word_retracted : inFaults (place cMb
      { inep 8 true false false 0 false false with
        mb := { (sending r0 0x4433 1 true false).mb with prevOffer := some ⟨7, false, false⟩ } } {}) .offerRetracted = true := by decide

/-- An MBIN with byte 1 of a word presented to a full INEP, and a word (last, not first) pending. -/
def pendingWord (l : Line) : State :=
  place cMb { inep 8 true false false 0 false false with
    mb := { (sending r0 0x4433 1 true false).mb with prevOffer := some ⟨0x88776655, false, true⟩ } } l

/-- MF8 on MBIN's producer port. -/
theorem test_word_changed :
    let l : Line := { pValid := some true, pData := some 0x88776655, pFirst := some false, pLast := some true }
    ran (pendingWord l) (fun t => t.inFault.isNone && t.regs.mb.prevOffer == some ⟨0x88776655, false, true⟩ &&
      t.regs.inep.prevOffer == some ⟨0x33, false, false⟩) = true ∧
    inFaults (pendingWord { l with pData := some 0x08776655 }) .offerRetracted = true ∧
    inFaults (pendingWord { l with pFirst := some true }) .offerRetracted = true ∧
    inFaults (pendingWord { l with pLast := some false }) .offerRetracted = true := by decide

/-! ## Reset and fault priority, 2.7 and 2.8 -/

theorem test_rs1_reset : ran (place cOut (withToggle (withBd (tf 3 1 5 2) true 0x33#8 false) true)
      (toOut { verdictOk with rst := true, sReady := some true }))
    (fun t => tfOf t == (0, 0, 0, 0) && !t.regs.expectedDataToggle && bdOf t == (false, 0x33#8, true) &&
      !t.out.outp.hsAck && !t.out.outp.sValid) = true := by decide

theorem test_rs2_reset_inep : ran (place cOut (inep 4 true true true 2 false true four)
      { inRst := true, txReady := some true })
    (fun t => inepOf t == inepOf State.reset && !t.out.inp.pReady && !t.out.inp.txValid && t.out.inp.txPidToggle)
      = true := by decide

theorem test_rs3_reset_over_faults : ran (place cOut r0
      { rst := true, tokOut := some true, tokIn := some true, rxComplete := true, rxInvalid := true })
    (fun t => t.outFault.isNone && tfOf t == (0, 0, 0, 0)) = true := by decide

theorem test_rs4_fault_outlives_reset :
    ran { place cOut (tf 0 0 5 0) { rst := true } with outFault := some .responseTiming }
      (fun t => t.outFault == some .responseTiming && tfOf t == (0, 0, 5, 0)) = true := by decide

/-- R293: one instance alone is reset. -/
theorem test_reset_one_instance :
    let r : Regs := { inep 4 true true false 0 true true four with tf := (tf 3 1 5 2).tf, expectedDataToggle := true }
    ran (place cOut r { rst := true }) (fun t => tfOf t == (0, 0, 0, 0) && !t.regs.expectedDataToggle &&
      inepOf t == (4, true, true, false, 0, true, true)) = true ∧
    ran (place cOut r { inRst := true }) (fun t => tfOf t == (4, 0, 4, 2) && t.regs.expectedDataToggle &&
      inepOf t == inepOf State.reset) = true := by decide

/-- R49, R278: a fault of the IN instance leaves the OUT instance its tick, and the other way round. -/
theorem test_fault_of_one_instance :
    ran (place cOut (inep 4 true false true 2 false false) (toIn { inReq := true, rxNext := true, rxData := 0x10#8 }))
      (fun t => t.inFault == some .inReqDuringTx && t.outFault.isNone && bdOf t == (true, 0x10#8, true) &&
        inepOf t == (4, true, false, true, 2, false, false)) = true ∧
    ran (place cOut (inep 1 false false false 0 false false)
        (toOut { dataReq := true, pValid := some true, pData := some 0xA1 }))
      (fun t => t.outFault == some .responseTiming && t.inFault.isNone &&
        inepOf t == (2, false, false, false, 0, false, false) && bdOf t == (false, 0x00#8, true)) = true := by decide

/-- MF10 is a condition of either endpoint: both take it, and the machine's step is that fault. -/
theorem test_fault_of_both_instances : stops (place cOut r0 { tokOut := some true, tokIn := some true })
    .tokenBothDirections = true := by decide

/-- A packet of more than MPS bytes that meets the full TFIFO (MF7), with an IN request and a host ACK (MF11). -/
def overrunWithAck : State :=
  place cOut (withBd (tf 0 0 0 16) true 0x99#8 false)
    (toOut { rxNext := true, rxData := 0x9A#8, inReq := true, hsInAck := true })

/-- R272, one order over both instances: MF11 stands before MF7, and MF4 before MF11; each record keeps its own code. -/
theorem test_priority_over_both_instances :
    stops overrunWithAck .inReqWithAck = true ∧ outFaults overrunWithAck .overrun = true ∧
    inFaults overrunWithAck .inReqWithAck = true ∧
    stops (place cOut r0 (toOut { dataReq := true, inReq := true, hsInAck := true })) .responseTiming = true := by decide

theorem test_fp1_token_both_directions : outFaults (place cOut r0
      { tokOut := some true, tokIn := some true, rxComplete := true, rxInvalid := true }) .tokenBothDirections = true := by
  decide

/-! ## Duties, R297 -/

/-- A machine of OUTEP and INEP just after reset, with a script. -/
def outRun (ls : List Line) : State := { State.resetOf cOut with script := ls }

/-- An INEP that owes a zero-length packet, asked for it by an IN token, then `ls`. -/
def zlpAsked (ls : List Line) : State :=
  { place cOut (inep 0 false true false 0 false false) {} with script := toIn { inReq := true } :: ls }

/-- Duties 1 and 8: the host ACK comes under the same token, at once or after a retry (R219); a token that changes before
it, and an ACK under another token or for no request (R303), break them. -/
theorem test_duty_host_ack :
    (zlpAsked [{ hsInAck := true }, { tokEp := some 3#4 }]).dutifulFrom 3 Duties.start = true ∧
    (zlpAsked [{ inReq := true }, { hsInAck := true }]).dutifulFrom 3 Duties.start = true ∧
    (zlpAsked [{ tokEp := some 3#4 }]).dutifulFrom 2 Duties.start = false ∧
    (zlpAsked [{ tokEp := some 3#4, hsInAck := true }]).dutifulFrom 2 Duties.start = false ∧
    (zlpAsked [{ hsInAck := true }, { hsInAck := true }]).dutifulFrom 3 Duties.start = false ∧
    (place cOut r0 { toIn { hsInAck := true } with tokEp := some 3#4 }).dutifulFrom 1 Duties.start = false := by decide

/-- Duty 12: an offer carries over a reset tick (R292), in which `p_ready` is 0 and which clears `prev_offer`; a producer
that retracts or changes it there breaks the duty, with no MF8. -/
theorem test_duty_offer_over_reset :
    let offer : Line := { inRst := true, pValid := some true, pData := some 0x5B }
    let run (c : Cfg) (l : Line) : State := { State.resetOf c with script := [offer, l] }
    (run cOut {}).dutifulFrom 2 Duties.start = true ∧ (run cMb {}).dutifulFrom 2 Duties.start = true ∧
    (run cOut { pValid := some false }).dutifulFrom 2 Duties.start = false ∧
    (run cMb { pFirst := some true }).dutifulFrom 2 Duties.start = false ∧
    (State.after 2 (run cOut { pValid := some false })).inFault = none := by decide

/-- Duty 5: a PING is answered under its token, and not in a tick of a packet. -/
theorem test_duty_ping :
    (place cOut r0 (toOut { pingReq := true })).dutifulFrom 1 Duties.start = true ∧
    (place cOut r0 (toOut { pingReq := true, rxNext := true })).dutifulFrom 1 Duties.start = false ∧
    (place cOut r0 (toIn { pingReq := true })).dutifulFrom 1 Duties.start = false := by decide

/-- Duty 9: a packet that failed its check comes again with its PID. -/
theorem test_duty_retransmission :
    let bad : Line := toOut { rxInvalid := true, rxPidToggle := some true }
    (outRun [bad, { verdictOk with rxPidToggle := some true }]).dutifulFrom 2 Duties.start = true ∧
    (outRun [bad, { verdictOk with rxPidToggle := some false }]).dutifulFrom 2 Duties.start = false := by decide

/-- R261: E2 on a NAK for want of space, E4 at construction. -/
theorem test_conditions : rowCondition .outDataNak = some .noSpace ∧ rowCondition .outDataAccept = none ∧
    cfgCondition { Cfg.scenario with bufDepth := 7 } = some .misconfig := by decide

/-! ## Witnesses: for every set of hypotheses of an obligation, a state and operands that meet it -/

theorem next_of_ran {s : State} {p : State → Bool} (h : ran s p = true) : ∃ t, step s = .next t ∧ p t = true := by
  unfold ran at h
  split at h
  · exact ⟨_, by assumption, h⟩
  · cases h

theorem fault_of_stops {s : State} {f : Fault} (h : stops s f = true) : step s = .fault f := by
  unfold stops at h
  split at h
  · simp_all
  · cases h

/-- The OUT instance steps, and its next tick is neither a reset tick nor a faulting one. -/
def outRunning (s : State) : Bool :=
  s.cfg.outBuilt && s.outFault.isNone && !s.openTick.inp.rst && s.openTick.outTickFault.isNone

theorem outRunning_live {s : State} (h : outRunning s = true) :
    s.outLive ∧ s.openTick.inp.rst = false ∧ s.openTick.outTickFault = none := by
  simp only [outRunning, Bool.and_eq_true, Bool.not_eq_true', Option.isNone_iff_eq_none] at h
  exact ⟨⟨h.1.1.1, h.1.1.2⟩, h.1.2, h.2⟩

/-- The IN instance steps, and its next tick is neither a reset tick nor a faulting one. -/
def inRunning (s : State) : Bool :=
  s.cfg.inBuilt && s.inFault.isNone && !s.openTick.inp.inRst && s.openTick.inTickFault.isNone

theorem inRunning_live {s : State} (h : inRunning s = true) :
    s.inLive ∧ s.openTick.inp.inRst = false ∧ s.openTick.inTickFault = none := by
  simp only [inRunning, Bool.and_eq_true, Bool.not_eq_true', Option.isNone_iff_eq_none] at h
  exact ⟨⟨h.1.1.1, h.1.1.2⟩, h.1.2, h.2⟩

/-- `State.outClean k` as a check. -/
def outRuns (k : Nat) (s : State) : Bool :=
  s.cfg.outBuilt && s.outFault.isNone && s.count (fun t => t.inp.rst) k == 0 && (State.after k s).outFault.isNone

theorem clean_of_outRuns {k : Nat} {s : State} (h : outRuns k s = true) : s.outClean k := by
  simp only [outRuns, Bool.and_eq_true, beq_iff_eq, Option.isNone_iff_eq_none] at h
  exact ⟨⟨h.1.1.1, h.1.1.2⟩, h.1.2, h.2⟩

/-- `State.inClean k` as a check. -/
def inRuns (k : Nat) (s : State) : Bool :=
  s.cfg.inBuilt && s.inFault.isNone && s.count (fun t => t.inp.inRst) k == 0 && (State.after k s).inFault.isNone

theorem clean_of_inRuns {k : Nat} {s : State} (h : inRuns k s = true) : s.inClean k := by
  simp only [inRuns, Bool.and_eq_true, beq_iff_eq, Option.isNone_iff_eq_none] at h
  exact ⟨⟨h.1.1.1, h.1.1.2⟩, h.1.2, h.2⟩

/-- `State.Inv` as a check. -/
def invHolds (s : State) : Bool :=
  let c := s.cfg
  let t := s.regs.tf
  let n := s.regs.inep
  let m := s.regs.mb
  (decide (t.nRc ≤ t.nC) && decide (t.nC + t.nS ≤ c.bufDepth) && decide (t.crp < c.bufDepth) && Memory.wf t.mem &&
      Cells.below c.bufDepth t.mem) &&
    (s.regs.bd.holdValid || s.regs.bd.isFirstByte) &&
    ((n.staged || decide (n.fillLen < c.inMps)) && (!n.staged || decide (1 ≤ n.fillLen ∧ n.fillLen ≤ c.inMps)) &&
      (!n.txActive || (n.staged && decide (n.txIdx < n.fillLen) && !n.awaitingAck)) &&
      (!n.zlpPending || n.staged || n.fillLen == 0) && decide (n.txIdx < c.inMps) &&
      (!n.awaitingAck || n.staged || n.zlpPending) && Memory.wf n.pbuf && Cells.below c.inMps n.pbuf) &&
    (decide (m.cnt < c.wordBytes) && decide (m.shreg < 2 ^ (8 * c.wordBytes))) &&
    (c.inSide == .inep || n.prevOffer.isNone)

theorem inv_of_invHolds {s : State} (h : invHolds s = true) : s.Inv := by
  simp only [invHolds, Bool.and_eq_true, Bool.or_eq_true, decide_eq_true_eq, beq_iff_eq, Bool.not_eq_true',
    Option.isNone_iff_eq_none] at h
  obtain ⟨⟨⟨⟨⟨⟨⟨⟨h1, h2⟩, h3⟩, h4⟩, h5⟩, h6⟩, ⟨⟨⟨⟨⟨⟨⟨h7, h8⟩, h9⟩, h10⟩, h11⟩, h12⟩, h13⟩, h14⟩⟩, h15, h16⟩, h17⟩ := h
  refine ⟨fun _ => ⟨h1, h2, h3, h4, h5⟩, fun e => ?_, fun _ => ⟨fun e => ?_, fun e => ?_, fun e => ?_, fun e => ?_,
    fun e e' => ?_, h11, fun e e' => ?_, h13, h14⟩, fun _ _ => ⟨h15, h16⟩, fun e o ho => ?_⟩ <;> simp_all

/-- A machine with an MBIN just after reset, with a script. -/
def mbRun (ls : List Line) : State := { State.resetOf cMb with script := ls }

/-- A DATA0 packet of two bytes to endpoint 1, with a valid check. -/
def twoBytes : List Line :=
  [toOut { rxNext := true, rxData := 0x10#8 }, { rxNext := true, rxData := 0x11#8 }, verdictOk]

theorem witness_DecodeIsMaskAndMatch :
    (∃ e : Event, e.value.toNat < 2 ^ e.vec.width ∧ e.value.toNat + 1 = 2 ^ e.vec.width ∧ ∃ rows, decode e = .ok rows) ∧
    (∃ e : Event, e.value.toNat < 2 ^ e.vec.width ∧ decode e = .error .noRow) ∧
    (∃ e : Event, 2 ^ e.vec.width = e.value.toNat) :=
  ⟨⟨⟨.outStr, 0x3#8⟩, by decide, by decide, [.outStreamXfer], by decide⟩, ⟨⟨.inAck, 0x6#8⟩, by decide, by decide⟩,
    ⟨⟨.bd, 0x10#8⟩, by decide⟩⟩

theorem witness_DecodeEncodeAgree : ∃ (i : Instr) (w : EvWord), w.toNat < 2 ^ i.vec.width ∧
    w &&& i.maskWord = (encode i).value ∧ w ≠ (encode i).value := ⟨.tfWrite, 0xFD#8, by decide, by decide, by decide⟩

theorem witness_ExclusiveRowsAreUnique :
    (∃ e : Event, e.value.toNat < 2 ^ e.vec.width ∧
      (∀ i : Instr, i.wf = false → i.vec = e.vec → e.value &&& i.maskWord ≠ i.matchWord) ∧ e.vec ≠ .tf ∧
      e.vec ≠ .outRx ∧ ((e.vec = .inAck ∨ e.vec = .rst) → e.value.getLsbD 0 = true)) ∧
    (∃ e : Event, e.value.toNat < 2 ^ e.vec.width ∧
      (∀ i : Instr, i.wf = false → i.vec = e.vec → e.value &&& i.maskWord ≠ i.matchWord) ∧
      (e.vec = .inAck ∨ e.vec = .rst) ∧ e.value.getLsbD 0 = false) ∧
    (∃ (e : Event) (rows : List Instr), e.value.toNat < 2 ^ e.vec.width ∧
      (∀ i : Instr, i.wf = false → i.vec = e.vec → e.value &&& i.maskWord ≠ i.matchWord) ∧ decode e = .ok rows) :=
  ⟨⟨⟨.inAck, 0x7#8⟩, by decide, by intro i; cases i <;> decide, by decide, by decide, by decide⟩,
    ⟨⟨.rst, 0x0#8⟩, by decide, by intro i; cases i <;> decide, by decide, by decide⟩,
    ⟨⟨.tf, 0x55#8⟩, [.tfWrite, .tfWriteCommit, .tfRead, .tfReadCommit], by decide,
      by intro i; cases i <;> decide, by decide⟩⟩

/-- A machine of both instances, and one of each alone. -/
theorem witness_StepRunsOneTick :
    (∃ s : State, s.cfg.legal = true ∧ s.outLive ∧ s.inLive ∧ s.openTick.inp.rst = true ∧
      s.openTick.inp.inRst = false ∧ s.openTick.inTickFault = none) ∧
    (∃ s : State, s.outLive ∧ s.inLive ∧ s.openTick.inp.rst = false ∧ s.openTick.outTickFault = some .responseTiming ∧
      s.openTick.inp.inRst = false ∧ s.openTick.inTickFault = none) ∧
    (∃ s : State, s.outLive ∧ s.inLive ∧ s.openTick.inp.rst = false ∧ s.openTick.outTickFault = none ∧
      s.openTick.inp.inRst = false ∧ s.openTick.inTickFault = some .inReqWithAck) ∧
    (∃ s : State, s.outLive ∧ s.inLive ∧ s.openTick.outTickFault = some .tokenBothDirections ∧
      s.openTick.inTickFault = some .tokenBothDirections ∧ s.openTick.inp.rst = false ∧ s.openTick.inp.inRst = false) ∧
    (∃ s : State, s.outLive ∧ ¬ s.inLive ∧ s.openTick.inp.rst = false ∧ s.openTick.outTickFault = some .overrun) ∧
    (∃ s : State, ¬ s.outLive ∧ s.inLive ∧ s.openTick.inp.inRst = false ∧
      s.openTick.inTickFault = some .inReqWithAck) ∧
    (∃ s : State, s.cfg.legal = true ∧ ¬ s.outLive ∧ ¬ s.inLive) :=
  ⟨⟨outRun [{ rst := true }], by unfold State.outLive State.inLive; decide⟩,
    ⟨outRun [toOut { dataReq := true }], by unfold State.outLive State.inLive; decide⟩,
    ⟨outRun [{ inReq := true, hsInAck := true }], by unfold State.outLive State.inLive; decide⟩,
    ⟨outRun [{ tokOut := some true, tokIn := some true }], by unfold State.outLive State.inLive; decide⟩,
    ⟨place cTf (tf 0 0 2 2) { we := true }, by unfold State.outLive State.inLive; decide⟩,
    ⟨(outRun [{ inReq := true, hsInAck := true }]).recordOut .overrun, by unfold State.outLive State.inLive; decide⟩,
    ⟨((outRun []).recordOut .overrun).recordIn .offerRetracted, by unfold State.outLive State.inLive; decide⟩⟩

theorem witness_VectorRunsItsDecodedRows :
    (∃ (v : Vec) (s : State) (w : EvWord), w.toNat < 2 ^ v.width ∧ s.ev v = (bits8 w).take v.width ∧
      decode ⟨v, w⟩ = .ok [.tfWrite, .tfWriteCommit]) ∧
    (∃ (v : Vec) (s : State) (w : EvWord), w.toNat < 2 ^ v.width ∧ s.ev v = (bits8 w).take v.width ∧
      decode ⟨v, w⟩ = .ok [.bdIdle]) ∧
    (∃ (v : Vec) (s : State) (w : EvWord), w.toNat < 2 ^ v.width ∧ s.ev v = (bits8 w).take v.width ∧
      decode ⟨v, w⟩ = .error .noRow) :=
  ⟨⟨.tf, (place cTf (tf 0 0 0 0) { we := true, wc := true }).openTick, 0x25#8, by decide⟩,
    ⟨.bd, State.reset, 0x0#8, by decide⟩, ⟨.rst, State.reset, 0x0#8, by decide⟩⟩

theorem witness_ResetLeavesTheStatedValues : (∃ s : State, s = State.reset) ∧ (∃ s : State, s = State.resetOf cMb) ∧
    (∃ (s : State) (f : Fault), s.cfg.outBuilt = true ∧ s.outFault = some f ∧ s.openTick.inp.rst = true) ∧
    ∃ (s : State) (f : Fault), s.cfg.inBuilt = true ∧ s.inFault = some f ∧ s.openTick.inp.inRst = true :=
  ⟨⟨_, rfl⟩, ⟨_, rfl⟩, ⟨(outRun [{ rst := true }]).recordOut .overrun, .overrun, by decide⟩,
    ⟨(outRun [{ inRst := true }]).recordIn .offerRetracted, .offerRetracted, by decide⟩⟩

theorem witness_ConfigurationIsChecked :
    (∃ c : Cfg, c.outSide = .outep ∧ c.outLegal = true ∧ c.outMps = c.bufDepth) ∧
    (∃ c : Cfg, c.outSide = .tfifoAlone ∧ c.outLegal = false) ∧
    (∃ s : State, s.cfg.outBuilt = false ∧ s.cfg.inBuilt = false) ∧
    (∃ s : State, s.cfg.outBuilt = true ∧ s.cfg.inBuilt = false) ∧
    ∃ s : State, s.cfg.outBuilt = false ∧ s.cfg.inBuilt = true :=
  ⟨⟨{ cOut with bufDepth := 8 }, by decide⟩, ⟨{ cTf with bufDepth := 0 }, by decide⟩,
    ⟨State.resetOf { cOut with bufDepth := 7, inMps := 0 }, by decide⟩, ⟨State.resetOf { cOut with hasIn := false }, by decide⟩,
    ⟨State.resetOf { cOut with bufDepth := 7 }, by decide⟩⟩

theorem witness_FaultIsRecordedAndSticky :
    (∃ (s : State) (f : Fault), s.outLive ∧ s.openTick.inp.rst = false ∧ s.openTick.outTickFault = some f) ∧
    (∃ (s : State) (f : Fault), s.cfg.outBuilt = true ∧ s.outFault = some f) ∧
    (∃ (s : State) (f : Fault), s.inLive ∧ s.openTick.inp.inRst = false ∧ s.openTick.inTickFault = some f) ∧
    (∃ (s : State) (f : Fault), s.cfg.inBuilt = true ∧ s.inFault = some f) ∧
    (∃ (s : State) (f : Fault), step s = .fault f) :=
  ⟨⟨outRun [toOut { dataReq := true }], .responseTiming, by unfold State.outLive; decide⟩,
    ⟨(State.reset).recordOut .overrun, .overrun, by decide⟩,
    ⟨outRun [{ inReq := true, hsInAck := true }], .inReqWithAck, by unfold State.inLive; decide⟩,
    ⟨(State.reset).recordIn .offerRetracted, .offerRetracted, by decide⟩, ⟨_, _, fault_of_stops test_tf4_write_full⟩⟩

theorem witness_FaultPriority :
    (∃ s : State, s.outLive ∧ s.openTick.inp.rst = false ∧ s.openTick.outTickFault = some .responseTiming) ∧
    (∃ s : State, s.outLive ∧ s.openTick.inp.rst = true ∧ s.openTick.outTickFault = some .tokenBothDirections) ∧
    (∃ (s : State) (f : Fault), s.outFault = some f) ∧
    (∃ s : State, s.inLive ∧ s.openTick.inp.inRst = false ∧ s.openTick.inTickFault = some .offerRetracted) ∧
    (∃ s : State, s.inLive ∧ s.openTick.inp.inRst = true ∧ s.openTick.inTickFault = some .tokenBothDirections) ∧
    (∃ (s : State) (f : Fault), s.inFault = some f) ∧
    (∃ s : State, s.outLive ∧ ¬ s.inLive ∧ s.openTick.inp.rst = false ∧ step s = .fault .overrun) ∧
    (∃ s : State, s.inLive ∧ ¬ s.outLive ∧ s.openTick.inp.inRst = false ∧ step s = .fault .inReqWithAck) ∧
    (∃ s : State, s.outLive ∧ s.inLive ∧ s.openTick.inp.rst = false ∧ s.openTick.inp.inRst = false ∧
      s.openTick.outTickFault = some .overrun ∧ step s = .fault .inReqWithAck) := by
  refine ⟨⟨outRun [toOut { dataReq := true }], ?_⟩,
    ⟨outRun [{ rst := true, tokOut := some true, tokIn := some true }], ?_⟩, ⟨(State.reset).recordOut .overrun, _, rfl⟩,
    ⟨pending {}, ?_⟩, ⟨outRun [{ inRst := true, tokOut := some true, tokIn := some true }], ?_⟩,
    ⟨(State.reset).recordIn .offerRetracted, _, rfl⟩,
    ⟨place cTf (tf 0 0 2 2) { we := true }, ⟨by decide, rfl⟩, fun h => absurd h.1 (by decide), by decide,
      fault_of_stops test_tf4_write_full⟩,
    ⟨State.resetOf { cOut with hasOut := false } |>.withLine { inReq := true, hsInAck := true }, ⟨by decide, rfl⟩,
      fun h => absurd h.1 (by decide), by decide, fault_of_stops (by decide)⟩,
    ⟨overrunWithAck, ⟨by decide, rfl⟩, ⟨by decide, rfl⟩, by decide, by decide, by decide, fault_of_stops (by decide)⟩⟩
  all_goals first | unfold State.outLive; decide | unfold State.inLive; decide

/-- Each of the eleven conditions is the first that holds somewhere (R272). -/
theorem witness_every_fault :
    [place cOut r0 { tokOut := some true, tokIn := some true, rxComplete := true, rxInvalid := true },
     place cOut r0 { rxNext := true, rxComplete := true, rxInvalid := true },
     place cOut r0 (toOut { rxNext := true, rxComplete := true, dataReq := true, pingReq := true }),
     place cOut r0 (toOut { dataReq := true, pingReq := true }),
     place cOut r0 (toOut { dataReq := true }),
     place cTf (tf 0 0 2 2) { wc := true, wdis := true, rc := true, rdis := true, we := true },
     place cTf (tf 0 0 2 2) { rc := true, rdis := true, we := true },
     place cTf (tf 0 0 2 2) { we := true }].map (fun s => s.openTick.outTickFault) =
    [some .tokenBothDirections, some .bothVerdicts, some .byteWithVerdict, some .bothRequests, some .responseTiming,
     some .commitAndDiscard, some .commitAndUnread, some .overrun] ∧
    [place cOut r0 { tokOut := some true, tokIn := some true, inReq := true, hsInAck := true },
     place cOut (inep 4 true false true 2 false false) (toIn { inReq := true, hsInAck := true }),
     place cOut (inep 4 true false true 2 false false) (toIn { inReq := true }),
     place cMb { r0 with mb := { r0.mb with prevOffer := some ⟨7, false, false⟩ } } {}].map
      (fun s => s.openTick.inTickFault) =
    [some .tokenBothDirections, some .inReqWithAck, some .inReqDuringTx, some .offerRetracted] := by
  decide

theorem witness_RowsTakeTheirFaults :
    (∃ s : State, s.inp.rxComplete = false) ∧
    (∃ s : State, s.regs.tf.nC + s.regs.tf.nS = s.cfg.bufDepth) ∧ (∃ s : State, s.mf8In = true) ∧
    (∃ s : State, s.inp.hsInAck = true) ∧ (∃ s : State, s.inp.inReq = true) ∧ (∃ s : State, s.mf8Mb = true) :=
  ⟨⟨State.reset, by decide⟩, ⟨place cTf (tf 0 0 2 2) {}, by decide⟩,
    ⟨place cOut { r0 with inep := { r0.inep with prevOffer := some ⟨0, false, false⟩ } } {}, by decide⟩,
    ⟨(outRun [{ hsInAck := true }]).openTick, by decide⟩, ⟨(outRun [{ inReq := true }]).openTick, by decide⟩,
    ⟨place cMb { r0 with mb := { r0.mb with prevOffer := some ⟨0, false, false⟩ } } {}, by decide⟩⟩

theorem witness_TfifoWriteRows :
    (∃ (s : State) (a : Nat), a = (s.regs.tf.crp + s.regs.tf.nC + s.regs.tf.nS) % s.cfg.bufDepth ∧ a = 0) ∧
    (∃ (s : State) (a : Nat), a ≠ (s.regs.tf.crp + s.regs.tf.nC + s.regs.tf.nS) % s.cfg.bufDepth) :=
  ⟨⟨place cTf (tf 3 0 1 0) {}, 0, by decide⟩, ⟨place cTf (tf 3 0 1 0) {}, 3, by decide⟩⟩

theorem witness_OutDataRows : ∃ s : State, s.inp.rxComplete = true := ⟨(outRun [verdictOk]).openTick, by decide⟩

theorem witness_OutBufferRows : ∃ s : State, s.regs.tf.nC + s.regs.tf.nS + 1 = s.cfg.bufDepth ∧
    s.regs.tf.nC + s.regs.tf.nS ≠ s.cfg.bufDepth := ⟨place cTf (tf 0 0 2 1) {}, by decide⟩

theorem witness_InFillRows : ∃ (s : State) (a b : Nat), s.mf8In = false ∧ a = s.regs.inep.fillLen ∧
    b ≠ s.regs.inep.fillLen ∧ s.regs.inep.fillLen + 1 = s.cfg.inMps :=
  ⟨place cOut (inep 3 false false false 0 false false) {}, 3, 0, by decide⟩

theorem witness_InTokenRows : ∃ s : State, s.inp.hsInAck = false := ⟨State.reset, by decide⟩

theorem witness_InTransmitAndAckRows : ∃ s : State, s.inp.inReq = false := ⟨State.reset, by decide⟩

theorem witness_MbinRows : ∃ s : State, s.mf8Mb = false := ⟨State.reset, by decide⟩

theorem witness_RowsKeepThePreState : ∃ (i : Instr) (s t : State), exec i s = .next t := ⟨.tfNop, State.reset, _, rfl⟩

theorem witness_RowsWriteTheirComponent : ∃ (i : Instr) (s t : State), exec i s = .next t ∧ i ≠ .reset ∧
    i.vec ≠ .bd ∧ i ≠ .outDataAccept ∧ i.vec ≠ .inFill ∧ i.vec ≠ .inTok ∧ i.vec ≠ .inTx ∧ i.vec ≠ .inAck ∧
    i.vec ≠ .mb := ⟨.tfRead, State.reset, _, rfl, by decide⟩

theorem witness_TfifoFlags : ∃ c : Cfg, c.outBuilt = true := ⟨cTf, by decide⟩

theorem witness_HandshakeEquations : ∃ s : State, s.outLive ∧ s.cfg.outSide = .outep ∧ s.openTick.inp.rst = false ∧
    s.openTick.outTickFault = none ∧ s.openTick.dataRespReq = true :=
  let s := place cOut (withBd (tf 0 0 0 7) true 0x17#8 false) (toOut verdictOk)
  have h := outRunning_live (s := s) (by decide)
  ⟨s, h.1, rfl, h.2.1, h.2.2, by decide⟩

theorem witness_ToggleUpdate :
    (∃ s : State, s.openTick.inp.rst = false ∧ s.cfg.outBuilt = true ∧ s.outFault = none ∧
      s.openTick.outTickFault = none ∧ s.cfg.outSide = .outep ∧ s.openTick.dataRespReq = true ∧
      s.openTick.okayToReceive = true) ∧
    (∃ s : State, s.openTick.inp.rst = false ∧ s.cfg.outBuilt = true ∧ s.outFault = none ∧
      s.openTick.outTickFault = some .bothVerdicts ∧ s.openTick.dataRespReq = true ∧ s.openTick.okayToReceive = true) :=
  ⟨⟨outRun [toOut verdictOk], by decide⟩, ⟨outRun [toOut { verdictOk with rxInvalid := true }], by decide⟩⟩

theorem witness_ConsumerStream :
    (∃ s : State, s.outLive ∧ s.cfg.outSide = .outep ∧ s.openTick.inp.rst = false ∧ s.openTick.outTickFault = none ∧
      s.regs.tf.nC = s.regs.tf.nRc + 1) ∧
    (∃ s : State, s.outLive ∧ s.cfg.outSide = .outep ∧ s.openTick.inp.rst = true) :=
  let s := place cOut (tf 15 0 1 0) { sReady := some true }
  have h := outRunning_live (s := s) (by decide)
  ⟨⟨s, h.1, rfl, h.2.1, h.2.2, rfl⟩, ⟨outRun [{ rst := true }], ⟨by decide, rfl⟩, rfl, by decide⟩⟩

theorem witness_TransmitOutputs :
    (∃ s : State, s.inLive ∧ s.openTick.inp.inRst = false ∧ s.openTick.inTickFault = none ∧ s.regs.inep.txActive = true ∧
      (s.regs.inep.txIdx : Int) = (s.regs.inep.fillLen : Int) - 1 ∧ s.regs.inep.staged = true) ∧
    (∃ s t : State, s.inLive ∧ step s = .next t) := by
  refine ⟨?_, ?_⟩
  · have h := inRunning_live (s := place cOut (inep 4 true false true 3 false false four) {}) (by decide)
    exact ⟨_, h.1, h.2.1, h.2.2, by decide, by decide, by decide⟩
  · obtain ⟨t, h, -⟩ := next_of_ran test_mb1_idle
    exact ⟨_, t, ⟨by decide, rfl⟩, h⟩

theorem witness_MbinOutputs :
    (∃ s : State, s.inLive ∧ s.cfg.inSide = .mbin ∧ s.openTick.inp.inRst = false ∧ s.openTick.inTickFault = none ∧
      s.regs.mb.mbState = .idle) ∧
    (∃ s : State, s.inLive ∧ s.cfg.inSide = .mbin ∧ s.openTick.inp.inRst = false ∧ s.openTick.inTickFault = none ∧
      s.regs.mb.mbState = .transmit ∧ s.regs.inep.staged = true) ∧
    (∃ s : State, s.inLive ∧ s.cfg.inSide = .mbin ∧ s.openTick.inp.inRst = false ∧ s.openTick.inTickFault = none ∧
      s.regs.mb.mbState = .transmit ∧ s.regs.mb.cnt = 0 ∧ s.regs.inep.staged = false) :=
  have h := inRunning_live (s := place cMb r0 {}) (by decide)
  have h' := inRunning_live (s := place cMb (sending (inep 8 true false false 0 false false) 0x4433 1 true false) {})
    (by decide)
  have h'' := inRunning_live (s := place cMb (sending r0 0x88 0 false true) {}) (by decide)
  ⟨⟨_, h.1, rfl, h.2.1, h.2.2, rfl⟩, ⟨_, h'.1, rfl, h'.2.1, h'.2.2, rfl, rfl⟩, ⟨_, h''.1, rfl, h''.2.1, h''.2.2, rfl, rfl, rfl⟩⟩

theorem witness_StandaloneTfifoTick : ∃ s : State, s.outLive ∧ s.cfg.outSide = .tfifoAlone ∧ s.openTick.inp.rst = false ∧
    s.openTick.outTickFault = none ∧ s.openTick.inp.we = true ∧ s.openTick.inp.rdis = true :=
  have h := outRunning_live (s := place cTf (tf 3 1 2 1) { we := true, wc := true, re := true, rdis := true }) (by decide)
  ⟨_, h.1, rfl, h.2.1, h.2.2, by decide, by decide⟩

theorem witness_OutepTick : ∃ s : State, s.outLive ∧ s.cfg.outSide = .outep ∧ s.openTick.inp.rst = false ∧
    s.openTick.outTickFault = none ∧ s.openTick.bdEmits = true :=
  have h := outRunning_live (s := place cOut (withBd (tf 0 0 0 7) true 0x17#8 false) (toOut verdictOk)) (by decide)
  ⟨_, h.1, rfl, h.2.1, h.2.2, by decide⟩

theorem witness_InepTick : ∃ s : State, s.inLive ∧ s.cfg.inSide = .inep ∧ s.openTick.inp.inRst = false ∧
    s.openTick.inTickFault = none ∧ s.openTick.xferP = true :=
  have h := inRunning_live (s := place cOut (inep 3 false false false 0 false false)
    { pValid := some true, pData := some 0x44, pLast := some true }) (by decide)
  ⟨_, h.1, rfl, h.2.1, h.2.2, by decide⟩

theorem witness_MbinTick : ∃ s : State, s.inLive ∧ s.cfg.inSide = .mbin ∧ s.openTick.inp.inRst = false ∧
    s.openTick.inTickFault = none ∧ s.regs.mb.mbState = .transmit :=
  have h := inRunning_live (s := place cMb (sending r0 0x44332211 3 true false) {}) (by decide)
  ⟨_, h.1, rfl, h.2.1, h.2.2, rfl⟩

/-- A reset tick of one instance under every other input, and one that a second reset tick follows. -/
theorem witness_ResetTick :
    (∃ s : State, s.outLive ∧ s.openTick.inp.rst = true ∧ s.openTick.outTickFault ≠ none ∧
      s.openTick.inp.inRst = false ∧ ∀ t, step s = .next t → t.openTick.inp.rst = true) ∧
    (∃ s : State, s.inLive ∧ s.openTick.inp.inRst = true ∧ s.openTick.inTickFault ≠ none ∧
      s.openTick.inp.rst = false ∧ ∀ t, step s = .next t → t.openTick.inp.inRst = true) := by
  let both : Line := { tokOut := some true, tokIn := some true }
  let s : State := { place cOut (withToggle (tf 3 1 5 2) true) {} with
    script := [{ both with rst := true }, { rst := true }] }
  let s' : State := { place cOut (inep 4 true true false 0 true true four) {} with
    script := [{ both with inRst := true }, { inRst := true }] }
  refine ⟨⟨s, ⟨by decide, rfl⟩, by decide, by decide, by decide, fun t ht => ?_⟩,
    ⟨s', ⟨by decide, rfl⟩, by decide, by decide, by decide, fun t ht => ?_⟩⟩
  · obtain ⟨t', h', hp⟩ := next_of_ran (s := s) (p := fun t => t.openTick.inp.rst) (by decide)
    cases ht.symm.trans h'
    exact hp
  · obtain ⟨t', h', hp⟩ := next_of_ran (s := s') (p := fun t => t.openTick.inp.inRst) (by decide)
    cases ht.symm.trans h'
    exact hp

theorem witness_StepKeepsTheInvariants : ∃ s t : State, s.Inv ∧ step s = .next t ∧ s.regs.tf.nC = 8 := by
  obtain ⟨t, h, -⟩ := next_of_ran test_or5_accept_at_mps
  exact ⟨_, t, inv_of_invHolds (by decide), h, rfl⟩

theorem witness_StepKeepsReachableEntriesWritten :
    ∃ s t : State, s.Inv ∧ s.Written ∧ step s = .next t ∧ s.regs.tf.nC = 1 := by
  let s := place cOut (tf 15 0 1 0 [(15, 0x355#10)]) (toOut { sReady := some true })
  obtain ⟨t, h, -⟩ := next_of_ran (s := s) (p := fun _ => true) (by decide)
  exact ⟨s, t, inv_of_invHolds (by decide), ⟨by decide, by decide⟩, h, rfl⟩

theorem witness_StepKeepsTheConfiguration :
    (∃ s t : State, step s = .next t ∧ s.outFault = some .overrun ∧ s.inLive ∧ s.script.headD {} = {}) ∧
    (∃ s t : State, step s = .next t ∧ s.inFault = some .offerRetracted ∧ s.outLive ∧
      (s.script.headD {}).tokEp = some 1#4) ∧
    (∃ s t : State, step s = .next t ∧ ¬ s.outLive ∧ ¬ s.inLive) := by
  obtain ⟨t, h, -⟩ := next_of_ran (s := (outRun []).recordOut .overrun) (p := fun _ => true) (by decide)
  obtain ⟨u, k, -⟩ := next_of_ran (s := (outRun twoBytes).recordIn .offerRetracted) (p := fun _ => true) (by decide)
  obtain ⟨v, l, -⟩ := next_of_ran (s := ((outRun []).recordOut .overrun).recordIn .offerRetracted) (p := fun _ => true)
    (by decide)
  exact ⟨⟨_, t, h, rfl, ⟨by decide, rfl⟩, rfl⟩, ⟨_, u, k, rfl, ⟨by decide, rfl⟩, rfl⟩,
    ⟨_, v, l, fun h => by simp [State.outLive, State.recordOut, State.recordIn] at h,
      fun h => by simp [State.inLive, State.recordIn] at h⟩⟩

theorem witness_TfifoRefinesQueue : ∃ (depth : Nat) (t : Tfifo) (i : TfIn) (e : Entry) (rest : List Entry),
    t.Inv depth ∧ (i.wc && i.wdis) = false ∧ (i.rc && i.rdis) = false ∧ (i.we && t.full depth) = false ∧
    (t.queue depth).unread = e :: rest ∧ i.we = true ∧ i.re = true ∧ t.nC + t.nS + 1 = depth :=
  ⟨4, (tf 3 1 2 1 [(0, 0x155#10), (1, 0x2AB#10), (3, 0x0FF#10)]).tf, ⟨true, 0x011#10, true, false, true, false, true⟩,
    0x155#10, [], ⟨by decide, by decide, by decide, by decide, by decide⟩, by decide⟩

theorem witness_ConsumerStreamIsFifo : ∃ (k : Nat) (s : State), s.cfg.outSide = .outep ∧ s.Inv ∧ s.outClean k ∧
    s.collect State.takenByConsumer k ≠ [] ∧ (State.after k s).queue.unread ≠ [] :=
  ⟨4, outRun (twoBytes ++ [{ sReady := some true }]), rfl, inv_of_invHolds (by decide), clean_of_outRuns (by decide), by decide⟩

theorem witness_DrainedRunDeliversAll : ∃ (k : Nat) (s : State), s.cfg.outSide = .outep ∧ s.Inv ∧ s.regs.tf.nC = 0 ∧
    s.outClean k ∧ (State.after k s).drained ∧ (s.collect State.committedNow k).length = 2 :=
  ⟨5, outRun (twoBytes ++ [{ sReady := some true }]), rfl, inv_of_invHolds (by decide), rfl, clean_of_outRuns (by decide),
    by unfold State.drained State.atRest; decide, by decide⟩

/-- A packet to another endpoint that fails its check, and one that is admitted and committed. -/
theorem witness_PacketsAreFramed :
    (∃ (k : Nat) (s : State), s.cfg.outSide = .outep ∧ s.Inv ∧ s.regs.bd.holdValid = false ∧ s.outClean (k + 1) ∧
      s.count State.verdict k = 0 ∧ (State.after k s).openTick.verdict = true ∧
      (State.after k s).openTick.inp.rxInvalid = true ∧ s.count State.byteDropped (k + 1) = 2) ∧
    (∃ (k : Nat) (s : State), s.cfg.outSide = .outep ∧ s.Inv ∧ s.regs.tf.nS = 0 ∧ s.regs.bd.holdValid = false ∧
      s.outClean (k + 1) ∧ s.count State.verdict k = 0 ∧ s.count State.byteDropped (k + 1) = 0 ∧
      (State.after k s).openTick.inp.rxComplete = true ∧ k = 2) :=
  ⟨⟨2, outRun [{ rxNext := true, rxData := 0x10#8 }, { rxNext := true, rxData := 0x11#8 }, { rxInvalid := true }], rfl,
      inv_of_invHolds (by decide), rfl, clean_of_outRuns (by decide), by decide⟩,
    ⟨2, outRun twoBytes, rfl, inv_of_invHolds (by decide), rfl, rfl, clean_of_outRuns (by decide), by decide⟩⟩

theorem witness_DiscardedPacketLeavesNothing : ∃ (k : Nat) (s : State), s.cfg.outSide = .outep ∧ s.Inv ∧
    s.outClean (k + 1) ∧ s.count (fun u => u.inp.rxComplete) (k + 1) = 0 ∧
    (State.after k s).openTick.inp.rxInvalid = true ∧ (State.after k s).regs.tf.nS = 1 :=
  ⟨2, outRun (twoBytes.take 2 ++ [{ rxInvalid := true }]), rfl, inv_of_invHolds (by decide), clean_of_outRuns (by decide),
    by decide⟩

theorem witness_DuplicateIsAckedAndSkipped : ∃ (k : Nat) (s : State), s.cfg.outSide = .outep ∧ s.Inv ∧
    s.regs.tf.nS = 0 ∧ s.outClean k ∧ (∀ j < k, (State.after j s).openTick.shouldSkip = true) ∧ 2 < k ∧
    (State.after 2 s).openTick.inp.dataReq = true :=
  ⟨3, place cOut (withToggle r0 true) {} |> fun s => { s with script := twoBytes }, rfl,
    inv_of_invHolds (by decide), rfl, clean_of_outRuns (by decide), by decide⟩

theorem witness_ToggleCountsAcceptances : ∃ (k : Nat) (s : State), s.cfg.outSide = .outep ∧ s.outClean k ∧
    s.count State.accepts k = 1 := ⟨3, outRun twoBytes, rfl, clean_of_outRuns (by decide), by decide⟩

theorem witness_AdmittedPacketNeverOverruns : ∃ (k : Nat) (s : State), s.cfg.outSide = .outep ∧ s.Inv ∧
    s.regs.tf.nS = 0 ∧ s.regs.bd.holdValid = false ∧ s.outClean k ∧ s.count State.verdict k = 0 ∧
    (s.collect State.byteReceived k).length = s.cfg.outMps ∧ s.regs.tf.nC = 2 ∧ s.cfg.bufDepth = 4 :=
  ⟨2, { State.resetOf { cOut with outMps := 2, bufDepth := 4 } with regs := tf 3 0 2 0, script := twoBytes },
    rfl, inv_of_invHolds (by decide), rfl, rfl, clean_of_outRuns (by decide), by decide⟩

theorem witness_DoubleBuffering :
    (∃ s : State, s.outLive ∧ s.cfg.outSide = .outep ∧ s.cfg.bufDepth = 2 * s.cfg.outMps ∧ s.openTick.inp.rst = false ∧
      s.openTick.outTickFault = none ∧ s.openTick.dataRespReq = true ∧ s.openTick.expectedPidMatch = true ∧
      s.regs.tf.nC = s.cfg.outMps) ∧
    (∃ s : State, s.outLive ∧ s.cfg.outSide = .outep ∧ s.cfg.bufDepth = 2 * s.cfg.outMps ∧ s.openTick.inp.rst = false ∧
      s.openTick.outTickFault = none ∧ s.openTick.dataRespReq = true ∧ s.openTick.expectedPidMatch = true ∧
      s.regs.tf.nC = s.cfg.outMps + 1) :=
  have h := outRunning_live (s := place cOut (withBd (tf 0 0 8 0) true 0x99#8 true) (toOut verdictOk)) (by decide)
  have h' := outRunning_live (s := place cOut (withBd (tf 0 0 9 0) true 0x99#8 true) (toOut verdictOk)) (by decide)
  ⟨⟨_, h.1, rfl, rfl, h.2.1, h.2.2, by decide, by decide, rfl⟩, ⟨_, h'.1, rfl, rfl, h'.2.1, h'.2.2, by decide, by decide, rfl⟩⟩

theorem witness_ZeroLengthPacketIsInvisible : ∃ s : State, s.outLive ∧ s.cfg.outSide = .outep ∧ s.Inv ∧
    s.openTick.inp.rst = false ∧ s.openTick.outTickFault = none ∧ s.regs.bd.holdValid = false ∧ s.regs.tf.nS = 0 ∧
    s.openTick.inp.rxComplete = true ∧ s.openTick.dataRespReq = true ∧ s.openTick.okayToReceive = true :=
  have h := outRunning_live (s := outRun [toOut verdictOk]) (by decide)
  ⟨_, h.1, rfl, inv_of_invHolds (by decide), h.2.1, h.2.2, rfl, rfl, by decide, by decide, by decide⟩

theorem witness_UncommittedRunIsInvisible : ∃ s s' : State, s'.cfg = s.cfg ∧ s.cfg.outSide = .outep ∧
    s'.draws = s.draws ∧ s'.regs.tf.crp = s.regs.tf.crp ∧ s'.regs.tf.nRc = s.regs.tf.nRc ∧
    s'.regs.tf.nC = s.regs.tf.nC ∧
    (∀ k < s.regs.tf.nC, readMem s'.regs.tf.mem ((s.regs.tf.crp + k) % s.cfg.bufDepth) =
      readMem s.regs.tf.mem ((s.regs.tf.crp + k) % s.cfg.bufDepth)) ∧
    s'.regs.tf.nS ≠ s.regs.tf.nS ∧ s'.regs.tf.mem ≠ s.regs.tf.mem ∧ s.regs.tf.nC = 1 :=
  ⟨place cOut (tf 15 0 1 0 [(15, 0x355#10)]) {}, place cOut (tf 15 0 1 1 [(0, 0x277#10), (15, 0x355#10)]) {}, rfl, rfl,
    rfl, rfl, rfl, rfl, by decide, by decide⟩

theorem witness_InstancesAreIndependent :
    (∃ s s' : State, s'.cfg = s.cfg ∧ s'.inp = s.inp ∧ s'.script = s.script ∧ s'.draws = s.draws ∧ s.sameOut s' ∧
      s.outLive ∧ s'.regs.inep ≠ s.regs.inep ∧ s'.inFault ≠ s.inFault) ∧
    (∃ s s' : State, s'.cfg = s.cfg ∧ s'.inp = s.inp ∧ s'.script = s.script ∧ s'.draws = s.draws ∧ s.sameIn s' ∧
      s.inLive ∧ s'.regs.tf ≠ s.regs.tf ∧ s'.outFault ≠ s.outFault) :=
  ⟨⟨outRun twoBytes, { place cOut (inep 4 true false true 2 false true four) {} with
        script := twoBytes, inFault := some .inReqDuringTx }, rfl, rfl, rfl, rfl,
      ⟨rfl, rfl, rfl, rfl, rfl, rfl, rfl⟩, ⟨by decide, rfl⟩, by decide, by decide⟩,
    ⟨outRun twoBytes, { place cOut (tf 3 1 5 2) {} with script := twoBytes, outFault := some .overrun },
      rfl, rfl, rfl, rfl, ⟨rfl, rfl, rfl, rfl, rfl⟩, ⟨by decide, rfl⟩, by decide, by decide⟩⟩

theorem witness_OffersAreHeld :
    (∃ s : State, s.Inv ∧ s.outLive ∧ s.openTick.inp.rst = false ∧ s.cfg.outSide = .outep ∧
      s.openTick.out.outp.sValid = true ∧ s.openTick.inp.sReady = false) ∧
    (∃ s : State, s.Inv ∧ s.inLive ∧ s.openTick.inp.inRst = false ∧
      s.openTick.out.inp.txValid = true ∧ s.openTick.inp.txReady = false ∧ s.openTick.out.inp.txLast = true) :=
  ⟨⟨place cOut (tf 15 0 1 0 [(15, 0x355#10)]) {}, inv_of_invHolds (by decide), ⟨by decide, rfl⟩, by decide⟩,
    ⟨place cOut (inep 4 true false true 3 false true four) {}, inv_of_invHolds (by decide), ⟨by decide, rfl⟩, by decide⟩⟩

theorem witness_PacketIsFilledInOrder :
    (∃ s : State, s.inLive ∧ s.Inv ∧ s.openTick.inp.inRst = false ∧ s.openTick.inTickFault = none ∧
      s.openTick.inp.hsInAck = true ∧ s.openTick.ackMatch = true ∧ s.regs.inep.staged = true) ∧
    (∃ s : State, s.inLive ∧ s.Inv ∧ s.openTick.inp.inRst = false ∧ s.openTick.inTickFault = none ∧
      s.openTick.xferP = true) :=
  have h := inRunning_live (s := place cOut (inep 4 true false false 0 true false four) (toIn { hsInAck := true }))
    (by decide)
  have h' := inRunning_live (s := place cOut (inep 3 false false false 0 false false)
    { pValid := some true, pData := some 0x44, pLast := some true }) (by decide)
  ⟨⟨_, h.1, inv_of_invHolds (by decide), h.2.1, h.2.2, by decide, by decide, by decide⟩,
    ⟨_, h'.1, inv_of_invHolds (by decide), h'.2.1, h'.2.2, by decide⟩⟩

theorem witness_TransmissionSendsThePacket :
    (∃ s : State, s.inLive ∧ s.Inv ∧ s.openTick.inp.inRst = false ∧ s.openTick.inTickFault = none ∧
      s.openTick.tokenAnswered = true ∧ s.regs.inep.staged = true ∧ s.regs.inep.awaitingAck = true) ∧
    (∃ (k : Nat) (s : State), s.Inv ∧ s.inClean k ∧ s.count State.tokenAnswered k = 0 ∧
      (s.collect State.sentNow k).length = 2 ∧ (State.after k s).regs.inep.unsent = []) :=
  have h := inRunning_live (s := place cOut (inep 4 true false false 0 true false four) (toIn { inReq := true }))
    (by decide)
  ⟨⟨_, h.1, inv_of_invHolds (by decide), h.2.1, h.2.2, by decide, by decide, by decide⟩,
    ⟨2, place cOut (inep 4 true false true 2 false false four) { txReady := some true },
      inv_of_invHolds (by decide), clean_of_inRuns (by decide), by decide⟩⟩

theorem witness_ZlpIsOwedAfterFullLastPacket :
    (∃ s : State, s.inLive ∧ s.Inv ∧ s.openTick.inp.inRst = false ∧ s.openTick.inTickFault = none ∧
      s.openTick.xferP = true ∧ s.openTick.inepIn.last = true ∧ s.regs.inep.fillLen + 1 = s.cfg.inMps) ∧
    (∃ s : State, s.inLive ∧ s.Inv ∧ s.openTick.inp.inRst = false ∧ s.openTick.inTickFault = none ∧
      s.regs.inep.zlpPending = true ∧ s.openTick.inp.hsInAck = true ∧ s.openTick.ackMatch = true ∧
      s.regs.inep.staged = false) ∧
    (∃ s : State, s.inLive ∧ s.Inv ∧ s.openTick.inp.inRst = false ∧ s.openTick.inTickFault = none ∧
      s.regs.inep.zlpPending = true ∧ s.regs.inep.staged = true) :=
  have h := inRunning_live (s := place cOut (inep 3 false false false 0 false false)
    { pValid := some true, pData := some 0x44, pLast := some true }) (by decide)
  have h' := inRunning_live (s := place cOut (inep 0 false true false 0 true false) (toIn { hsInAck := true }))
    (by decide)
  have h'' := inRunning_live (s := place cOut (inep 4 true true false 0 true false four) (toIn { hsInAck := true }))
    (by decide)
  ⟨⟨_, h.1, inv_of_invHolds (by decide), h.2.1, h.2.2, by decide, by decide, by decide⟩,
    ⟨_, h'.1, inv_of_invHolds (by decide), h'.2.1, h'.2.2, by decide, by decide, by decide, by decide⟩,
    ⟨_, h''.1, inv_of_invHolds (by decide), h''.2.1, h''.2.2, by decide, by decide⟩⟩

theorem witness_InToggleCountsAcks : ∃ (k : Nat) (s : State), s.inClean k ∧ s.count State.honoursAck k = 1 :=
  ⟨1, place cOut (inep 4 true false false 0 true false four) (toIn { hsInAck := true }), clean_of_inRuns (by decide),
    by decide⟩

theorem witness_MbinHandsOnEveryByteInOrder : ∃ (k : Nat) (s : State), s.cfg.inSide = .mbin ∧ s.Inv ∧ s.inClean k ∧
    (s.collect State.wordTaken k).length = 4 ∧ (s.collect State.byteHanded k).length = 2 :=
  ⟨3, mbRun [{ pValid := some true, pData := some 0x44332211, pFirst := some true, pLast := some true },
      { pValid := some false }], rfl, inv_of_invHolds (by decide), clean_of_inRuns (by decide), by decide⟩

/-- A packet, its drained delivery, and an IN token that is NAKed, all within the duties; and a run that breaks one. -/
theorem witness_DutifulRunsTakeNoFault :
    (∃ (k : Nat) (s : State), s.Inv ∧ s.cfg.outSide = .outep ∧ s.regs.tf.nS = 0 ∧ s.regs.bd.holdValid = false ∧
      s.outFault = none ∧ s.inFault = none ∧ s.dutiful k ∧ (s.collect State.takenByConsumer k).length = 2 ∧
      s.count State.tokenAnswered k = 1) ∧
    (∃ (k : Nat) (s : State), ¬ s.dutiful k ∧ (State.after k s).outFault = none ∧ (State.after k s).inFault = none) :=
  ⟨⟨5, outRun (twoBytes ++ [{ sReady := some true }, toIn { inReq := true }]), inv_of_invHolds (by decide), rfl, rfl, rfl,
      rfl, rfl, by unfold State.dutiful; decide, by decide⟩,
    ⟨2, outRun [toOut { rxNext := true, rxData := 0x10#8 }, toIn {}], by unfold State.dutiful; decide, by decide⟩⟩

end Sys2Proof.Tests
end

section
/-! SUPPORT. Proofs of the statements of 00_scope.md: what a row leaves alone (R16, R18), what a step is (R18, R49) and
what it leaves alone (R12, R107), and the offers that stand (R186, R215). -/

namespace Sys2Proof.Machine

/-! ## What a row leaves alone -/

/-- Where the answer is a next state, it differs from `s` in nothing that no row writes. -/
def Result.keepsTick (s : State) (r : Result) : Prop := ∀ t, r = .next t → s.sameTick t

theorem Result.keepsTick_next (s : State) (n : Regs) (o : Outputs) :
    Result.keepsTick s (.next { s with nxt := n, out := o }) := by
  intro t h
  cases h
  exact ⟨rfl, rfl, rfl, rfl, rfl, rfl, rfl⟩

theorem Result.keepsTick_raise (s : State) (f : Fault) : Result.keepsTick s (raise f) := by
  intro t h
  cases h

theorem Result.keepsTick_unlessFault (s : State) (c : Bool) (f : Fault) (n : Regs) (o : Outputs) :
    Result.keepsTick s (unlessFault c f { s with nxt := n, out := o }) := by
  cases c
  · exact Result.keepsTick_next s n o
  · exact Result.keepsTick_raise s f

/-- Every row raises a fault, or schedules registers and drives outputs, some of them unless a fault of theirs holds. -/
theorem exec_keepsTick (i : Instr) (s : State) : Result.keepsTick s (exec i s) := by
  cases i with
  | tfWriteFull | illegalTfMf5 | illegalTfMf6 | illegalBdMf1CompleteInvalid | illegalBdMf2NextComplete
  | illegalBdMf2NextInvalid | illegalOutrespMf3 | illegalIntokMf9 => exact Result.keepsTick_raise s _
  | outDataAccept | outDataSkip | outDataNak | outRxWrite | inFillIdle | inFillByte | inCloseShort | inCloseFull
  | inCloseFullLast | inReqNotTargeted | inSendData | inSendZlp | inNak | inAckData | inAckZlp | inAckIgnored
  | mbIdleWait | mbHold => exact Result.keepsTick_unlessFault s _ _ _ _
  | _ => exact Result.keepsTick_next s _ _

/-! ## What a side answers in a tick -/

/-- The tick of the OUT side, one of the machine's two parts (R49): RESET alone, or its fault, or the rows of its vectors
(R18, R102). -/
theorem State.outTick_eq (s : State) :
    s.outTick =
      if s.inp.rst then andThen (exec .reset s) fun t => .next t.closeTick
      else match s.outTickFault with
        | some f => .fault f
        | none => andThen (runVecs (outVecs s.cfg) s) fun t => .next t.closeTick := by
  unfold State.outTick
  rw [firing_ev_rst]
  cases s.inp.rst
  · cases s.outTickFault <;> rfl
  · simp [execAll_singleton]

/-- The tick of the IN side, the other part. -/
theorem State.inTick_eq (s : State) :
    s.inTick =
      if s.inp.rst then andThen (exec .reset s) fun t => .next t.closeTick
      else match s.inTickFault with
        | some f => .fault f
        | none => andThen (runVecs (inVecs s.cfg) s) fun t => .next t.watchOffers.closeTick := by
  unfold State.inTick
  rw [firing_ev_rst]
  cases s.inp.rst
  · cases s.inTickFault <;> rfl
  · simp [execAll_singleton]

/-- A side that steps answers its tick. -/
theorem outPart_of_outLive {s : State} (h : s.outLive) : s.outPart = some s.openTick.outTick := by
  simp [State.outPart, State.outRuns, h.1, h.2]

theorem inPart_of_inLive {s : State} (h : s.inLive) : s.inPart = some s.openTick.forIn.inTick := by
  simp [State.inPart, State.inRuns, h.1, h.2]

theorem not_outLive_of_outFault {s : State} {f : Fault} (h : s.outFault = some f) : ¬ s.outLive :=
  fun hl => by simp [hl.2] at h

theorem not_inLive_of_inFault {s : State} {f : Fault} (h : s.inFault = some f) : ¬ s.inLive :=
  fun hl => by simp [hl.2] at h

/-! ## The step, from what the two sides answer -/

/-- One side's fault is the step's where the other does not step (R271). -/
theorem step_of_outFault {s : State} {f : Fault} (hc : s.cfg.legal = true) (ho : s.outPart = some (.fault f))
    (hi : s.inPart = none) : step s = .fault f := by
  simp [step, State.advance, hc, State.join, goesOn, ho, hi]

theorem step_of_inFault {s : State} {f : Fault} (hc : s.cfg.legal = true) (ho : s.outPart = none)
    (hi : s.inPart = some (.fault f)) : step s = .fault f := by
  simp [step, State.advance, hc, State.join, goesOn, ho, hi]

/-- Of two faults the step's is the first in the order of R272. -/
theorem step_of_bothFaults {s : State} {f g : Fault} (hc : s.cfg.legal = true) (ho : s.outPart = some (.fault f))
    (hi : s.inPart = some (.fault g)) : step s = .fault (firstFault f g) := by
  simp [step, State.advance, hc, State.join, goesOn, ho, hi]

/-- Where no side steps, nothing changes (R271). -/
theorem step_of_noPart {s : State} (hc : s.cfg.legal = true) (ho : s.outPart = none) (hi : s.inPart = none) :
    step s = .next s := by
  simp [step, State.advance, hc, State.join, goesOn, ho, hi]

/-- A step that answers a next state joins the two parts in the tick whose inputs were read, or nothing has stepped. -/
theorem step_next_cases {s t : State} (h : step s = .next t) :
    ((s.outLive ∨ s.inLive) ∧ t = (s.ticked.adoptOut s.outPart).adoptIn s.inPart) ∨
      (¬ s.outLive ∧ ¬ s.inLive ∧ t = s) := by
  rcases step_cases s with ⟨-, hs⟩ | ⟨-, hg, hs⟩ | ⟨f, -, hs⟩ | ⟨-, ho, hi, hs⟩ <;> cases hs.symm.trans h
  · refine .inl ⟨?_, rfl⟩
    by_contra hl
    rw [not_or] at hl
    simp [outPart_none hl.1, inPart_none hl.2, goesOn] at hg
  · exact .inr ⟨fun hl => by simp [outPart_of_outLive hl] at ho, fun hl => by simp [inPart_of_inLive hl] at hi, rfl⟩

/-- While the OUT side goes on, the next state has its part, and no fault of it. -/
theorem step_hasOutPart {s a : State} (hl : s.outLive) (h : s.outPart = some (.next a)) :
    ∃ t, step s = .next t ∧ a.sameOut { t with outFault := a.outFault } ∧ t.outFault = none := by
  obtain ⟨-, -, -, -, htf, hbd, htog, hotf, hobd, hoo, hof⟩ := (s.ticked.takeOut a).adoptIn_frame s.inPart
  exact ⟨_, step_of_outPart h, ⟨htf, hbd, htog, hotf, hobd, hoo, rfl⟩, hof.trans hl.2⟩

/-- While the IN side goes on, the next state has its part, and no fault of it. -/
theorem step_hasInPart {s b : State} (hl : s.inLive) (h : s.inPart = some (.next b)) :
    ∃ t, step s = .next t ∧ b.sameIn { t with inFault := b.inFault } ∧ t.inFault = none := by
  obtain ⟨-, -, -, -, -, -, -, -, hif⟩ := s.ticked.adoptOut_frame s.outPart
  exact ⟨_, step_of_inPart h, ⟨rfl, rfl, rfl, rfl, rfl⟩, hif.trans hl.2⟩

/-- While the IN side goes on, a fault of the OUT side is recorded and nothing else of it changes. -/
theorem step_recordsOutFault {s b : State} {f : Fault} (ho : s.outPart = some (.fault f))
    (hi : s.inPart = some (.next b)) :
    ∃ t, step s = .next t ∧ s.sameOut { t with outFault := s.outFault } ∧ t.outFault = some f := by
  refine ⟨_, step_of_inPart hi, ?_⟩
  rw [ho]
  exact ⟨⟨rfl, rfl, rfl, rfl, rfl, rfl, rfl⟩, rfl⟩

/-- While the OUT side goes on, a fault of the IN side is recorded and nothing else of it changes. -/
theorem step_recordsInFault {s a : State} {f : Fault} (ho : s.outPart = some (.next a))
    (hi : s.inPart = some (.fault f)) :
    ∃ t, step s = .next t ∧ s.sameIn { t with inFault := s.inFault } ∧ t.inFault = some f := by
  refine ⟨_, step_of_outPart ho, ?_⟩
  rw [hi]
  exact ⟨⟨rfl, rfl, rfl, rfl, rfl⟩, rfl⟩

/-- A side that does not step stays as it is, whatever the other one does (R49). -/
theorem sameOut_afterStep_of_not_outLive {s : State} (h : ¬ s.outLive) : s.sameOut s.afterStep := by
  have := afterStep_sameOut s
  rwa [outPart_none h] at this

theorem sameIn_afterStep_of_not_inLive {s : State} (h : ¬ s.inLive) : s.sameIn s.afterStep := by
  have := afterStep_sameIn s
  rwa [inPart_none h] at this

theorem afterStep_of_next {s t : State} (h : step s = .next t) : s.afterStep = t := by
  simp [State.afterStep, h]

/-! ## What a step leaves alone -/

/-- Joining the two parts writes neither the configuration nor the inputs. -/
theorem State.adopt_frame (o i : Option Result) (s : State) :
    ((s.adoptOut o).adoptIn i).cfg = s.cfg ∧ ((s.adoptOut o).adoptIn i).inp = s.inp ∧
      ((s.adoptOut o).adoptIn i).script = s.script := by
  obtain ⟨hc, hi, hs, -⟩ := s.adoptOut_frame o
  obtain ⟨hc', hi', hs', -⟩ := (s.adoptOut o).adoptIn_frame i
  exact ⟨hc'.trans hc, hi'.trans hi, hs'.trans hs⟩

/-- No step changes the configuration (R12). -/
theorem step_cfg {s t : State} (h : step s = .next t) : t.cfg = s.cfg := by
  rcases step_next_cases h with ⟨-, rfl⟩ | ⟨-, -, rfl⟩
  · exact (State.adopt_frame _ _ _).1
  · rfl

theorem afterStep_cfg (s : State) : s.afterStep.cfg = s.cfg := by
  unfold State.afterStep
  split
  case h_1 t h => exact step_cfg h
  case h_2 => exact (State.adopt_frame _ _ _).1
  case h_3 => rfl

/-- A step in which a side steps reads one line of the script (R107). -/
theorem step_reads_line {s t : State} (h : step s = .next t) (hl : s.outLive ∨ s.inLive) :
    t.inp = resolve s.inp (s.script.headD {}) ∧ t.script = s.script.tail := by
  rcases step_next_cases h with ⟨-, rfl⟩ | ⟨ho, hi, -⟩
  · exact (State.adopt_frame _ _ _).2
  · exact absurd hl (not_or.mpr ⟨ho, hi⟩)

/-- A recorded fault stays (R44, R271). -/
theorem step_keeps_outFault {s t : State} {f : Fault} (h : step s = .next t) (hf : s.outFault = some f) :
    t.outFault = some f := by
  obtain ⟨-, -, -, -, -, -, hof⟩ := sameOut_afterStep_of_not_outLive (not_outLive_of_outFault hf)
  rw [← hf, ← hof, afterStep_of_next h]

theorem step_keeps_inFault {s t : State} {f : Fault} (h : step s = .next t) (hf : s.inFault = some f) :
    t.inFault = some f := by
  obtain ⟨-, -, -, -, hif⟩ := sameIn_afterStep_of_not_inLive (not_inLive_of_inFault hf)
  rw [← hf, ← hif, afterStep_of_next h]

/-- A step without a side that steps leaves the state (R271). -/
theorem step_eq_self {s t : State} (h : step s = .next t) (ho : ¬ s.outLive) (hi : ¬ s.inLive) : t = s := by
  rcases step_next_cases h with ⟨hl, -⟩ | ⟨-, -, rfl⟩
  · exact absurd hl (not_or.mpr ⟨ho, hi⟩)
  · rfl

/-! ## A side one step later -/

/-- A faulting tick records its code and changes nothing else of the OUT side (R271). -/
theorem afterStep_sameOut_of_fault {s : State} {f : Fault} (h : s.outLive) (hr : s.openTick.inp.rst = false)
    (hf : s.openTick.outTickFault = some f) : (s.recordOut f).sameOut s.afterStep := by
  have := afterStep_sameOut s
  rwa [outPart_live h, hr, hf] at this

theorem afterStep_sameOut_of_next {s : State} (h : s.outLive) (hr : s.openTick.inp.rst = false)
    (hf : s.openTick.outTickFault = none) : (s.takeOut s.openTick.outTickDone).sameOut s.afterStep := by
  have := afterStep_sameOut s
  rwa [outPart_live h, hr, hf] at this

/-- A faulting tick records its code and changes nothing else of the IN side (R271). -/
theorem afterStep_sameIn_of_fault {s : State} {f : Fault} (h : s.inLive) (hr : s.openTick.inp.inRst = false)
    (hf : s.openTick.inTickFault = some f) : (s.recordIn f).sameIn s.afterStep := by
  have := afterStep_sameIn s
  rwa [inPart_live h, hr, hf] at this

theorem afterStep_sameIn_of_next {s : State} (h : s.inLive) (hr : s.openTick.inp.inRst = false)
    (hf : s.openTick.inTickFault = none) : (s.takeIn s.openTick.forIn.inTickDone).sameIn s.afterStep := by
  have := afterStep_sameIn s
  rwa [inPart_live h, hr, hf] at this

/-! ## The offer to the consumer -/

theorem Tfifo.empty_eq_false {t : Tfifo} : t.empty = false ↔ t.nRc < t.nC := by
  simp [Tfifo.empty, Nat.sub_eq_zero_iff_le]

/-- A TFIFO with room writes to another index than the one it shows (R37). -/
theorem Tfifo.wp_ne_rp {depth : Nat} {t : Tfifo} (hr : t.nRc < t.nC) (hs : t.nC + t.nS < depth) :
    t.wp depth ≠ t.rp depth := by
  intro h
  have hm : t.crp + t.nRc ≡ t.crp + t.nC + t.nS [MOD depth] := h.symm
  have hd := Nat.le_of_dvd (by omega) ((Nat.modEq_iff_dvd' (by omega)).mp hm)
  omega

/-- A tick without a read, its read side wired as in OUTEP (R188), leaves the entry shown where it is (R186). -/
theorem tfTick_keeps_shown {depth : Nat} {t : Tfifo} {i : TfIn} (hinv : t.Inv depth) (he : t.empty = false)
    (hre : i.re = false) (hrc : i.rc = true) :
    (tfTick depth t i).empty = false ∧
      readMem (tfTick depth t i).mem ((tfTick depth t i).rp depth) = readMem t.mem (t.rp depth) := by
  have hlt := Tfifo.empty_eq_false.mp he
  have hrp : (tfTick depth t i).rp depth = t.rp depth := by simp [tfTick, Tfifo.rp, hre, hrc]
  refine ⟨Tfifo.empty_eq_false.mpr ?_, ?_⟩
  · simp only [tfTick, hre, hrc, Bool.false_and, if_true]
    split <;> simp <;> omega
  · rw [hrp]
    simp only [tfTick, hre, hrc, Bool.false_and, if_true]
    split
    next hw =>
      have hfull : t.nC + t.nS ≠ depth := by simpa [Tfifo.full] using (Bool.and_eq_true_iff.mp hw).2
      have hfits := hinv.fits
      rw [readMem_write, if_neg (Tfifo.wp_ne_rp hlt (by omega)).symm]
    next => rfl

/-- The stream outputs of OUTEP while an entry is shown. -/
def offerOf (e : Entry) : OutPorts where
  hsAck := false
  hsNak := false
  sValid := true
  sData := entryData e
  sFirst := entryFirst e
  sLast := entryLast e

/-- The consumer is offered the entry at the read index (R184). -/
theorem State.openTick_outp {s : State} (he : s.regs.tf.empty = false) :
    s.openTick.out.outp = offerOf (readMem s.regs.tf.mem (s.regs.tf.rp s.cfg.bufDepth)) := by
  simp [presented, outPorts, tfPorts, offerOf, he]

/-- A tick without reset in which the consumer is not ready leaves the entry shown where it is, also where it faults. -/
theorem afterStep_keeps_shown {s : State} (hinv : s.Inv) (hl : s.outLive) (hr : s.openTick.inp.rst = false)
    (hc : s.cfg.outSide = .outep) (he : s.regs.tf.empty = false) (hready : s.openTick.inp.sReady = false) :
    s.afterStep.regs.tf.empty = false ∧
      readMem s.afterStep.regs.tf.mem (s.afterStep.regs.tf.rp s.cfg.bufDepth) =
        readMem s.regs.tf.mem (s.regs.tf.rp s.cfg.bufDepth) := by
  cases hf : s.openTick.outTickFault with
  | some f =>
    obtain ⟨htf, -⟩ := afterStep_sameOut_of_fault hl hr hf
    rw [htf]
    exact ⟨he, rfl⟩
  | none =>
    obtain ⟨htf, -⟩ := afterStep_sameOut_of_next hl hr hf
    obtain ⟨hdone, -⟩ := s.openTick.outTickDone_outep hc
    rw [htf, State.takeOut_regs_tf, hdone]
    exact tfTick_keeps_shown (hinv.tf hl.1) he (by simpa using fun _ => hready) rfl

/-! ## The offer to the transmitter -/

/-- While INEP transmits and the transmitter is not ready, a tick that takes no fault changes none of INEP's registers
(R215): the packet is staged, so nothing is filled, and no ACK is awaited. -/
theorem inepTick_of_waiting {c : Cfg} {n : Inep} {i : Inputs} {p : ByteStream} (hinv : n.Inv c.inMps)
    (ha : n.txActive = true) (hready : i.txReady = false)
    (hreq : (i.inReq && (i.tokIn && i.tokEp.toNat == c.inEp)) = false) :
    inepTick c n i p =
      { n with prevOffer := pendingOffer p.valid n.ready ⟨p.data.toNat, p.first, p.last⟩ } := by
  have hstaged := (hinv.sending ha).1
  have hack := hinv.sending_ack ha
  have hfill : inepFill c n p = n := by simp [inepFill, Inep.ready, hstaged]
  have htok : ∀ m, inepToken n i.inReq (i.tokIn && i.tokEp.toNat == c.inEp) m = m := by
    intro m
    simp only [inepToken, hreq, Bool.false_and, Bool.false_eq_true, if_false]
  have htx : ∀ m, inepTransmit n i.txReady m = m := by simp [inepTransmit, hready]
  have hackSide : ∀ a b m, inepAck n a b m = m := by simp [inepAck, hack]
  simp only [inepTick, hfill, htok, htx, hackSide]

/-- One step later INEP's registers stand, but for what it remembers of its producer's offer. -/
theorem afterStep_inep_of_waiting {s : State} (hinv : s.Inv) (hl : s.inLive) (hr : s.openTick.inp.inRst = false)
    (ha : s.regs.inep.txActive = true) (hready : s.openTick.inp.txReady = false) :
    ∃ o, s.afterStep.regs.inep = { s.regs.inep with prevOffer := o } := by
  cases hf : s.openTick.inTickFault with
  | some f =>
    obtain ⟨hin, -⟩ := afterStep_sameIn_of_fault hl hr hf
    exact ⟨_, hin⟩
  | none =>
    obtain ⟨hin, -⟩ := afterStep_sameIn_of_next hl hr hf
    obtain ⟨hdone, -⟩ := s.openTick.forIn.inTickDone_inep rfl
    obtain ⟨-, h9, -⟩ := inTickFault_none hf
    refine ⟨_, hin.trans (hdone.trans (inepTick_of_waiting (hinv.inep hl.1) ha hready ?_))⟩
    rw [State.mf9, State.openTick_regs, ha, Bool.and_true] at h9
    exact h9

end Sys2Proof.Machine

/-! ## The statements -/

namespace Sys2Proof.Proofs

open Sys2Proof.Machine

/-- Settles O25: whatever a row answers, it has written scheduled registers and outputs alone. -/
theorem rowsKeepThePreState : Obligations.RowsKeepThePreState :=
  fun i s t h => exec_keepsTick i s t h

/-- Settles O41, from the two forms a next state can have. -/
theorem stepKeepsTheConfiguration : Obligations.StepKeepsTheConfiguration := by
  intro s t h
  refine ⟨step_cfg h, fun _ => step_keeps_outFault h, fun _ => step_keeps_inFault h, step_eq_self h, fun hl => ?_⟩
  obtain ⟨hinp, hscript⟩ := step_reads_line h hl
  rw [hinp]
  generalize s.script.headD {} = l
  refine ⟨hscript, ?_⟩
  simp +contextual [resolve]

/-- Settles O54: under the invariant the registers that an offer shows stand until it is taken. -/
theorem offersAreHeld : Obligations.OffersAreHeld := by
  refine ⟨fun s hinv hl hr hc hv hready => ?_, fun s hinv hl hr hv hready => ?_⟩
  · have he : s.regs.tf.empty = false := by simpa [presented, outPorts, tfPorts] using hv
    obtain ⟨he', hshown⟩ := afterStep_keeps_shown hinv hl hr hc he hready
    rw [State.openTick_outp he, State.openTick_outp he', afterStep_cfg, hshown]
  · have ha : s.regs.inep.txActive = true := hv
    obtain ⟨o, hinep⟩ := afterStep_inep_of_waiting hinv hl hr ha hready
    simp [presented, inPorts, hinep, ha, Inep.txLast, Inep.atLast]

/-- Settles O5: the two ticks are the model's own, and the step joins them. -/
theorem stepRunsOneTick : Obligations.StepRunsOneTick := by
  intro s hlegal u v close o i
  have ho : s.openTick.outTick = o := State.outTick_eq u
  have hi : s.openTick.forIn.inTick = i := State.inTick_eq v
  have hout : s.outLive → s.outPart = some o := fun h => ho ▸ outPart_of_outLive h
  have hin : s.inLive → s.inPart = some i := fun h => hi ▸ inPart_of_inLive h
  clear_value o i
  refine ⟨rfl, ?_, ?_, ?_, ?_, ?_, ?_, ?_, ?_, ?_, ?_⟩
  · rintro hl a rfl
    exact step_hasOutPart hl (hout hl)
  · rintro hl b rfl
    exact step_hasInPart hl (hin hl)
  · rintro hl hk f b rfl rfl
    exact step_recordsOutFault (hout hl) (hin hk)
  · rintro hl hk f a rfl rfl
    exact step_recordsInFault (hout hl) (hin hk)
  · rintro hl f rfl hk
    exact step_of_outFault hlegal (hout hl) (inPart_none hk)
  · rintro hl hk f g rfl rfl
    exact step_of_bothFaults hlegal (hout hl) (hin hk)
  · rintro hl f rfl hk
    exact step_of_inFault hlegal (outPart_none hk) (hin hl)
  · intro hl t ht
    exact afterStep_of_next ht ▸ sameOut_afterStep_of_not_outLive hl
  · intro hl t ht
    exact afterStep_of_next ht ▸ sameIn_afterStep_of_not_inLive hl
  · intro hl hk
    exact step_of_noPart hlegal (outPart_none hl) (inPart_none hk)

end Sys2Proof.Proofs
end

section
/-! SUPPORT. Proofs of the statements of 10_state.md: the reset state (R46), what every step keeps of the registers (R36,
R39, R42, R43, D27), who writes what (R40, R50), and what two states need not share (R47, R49). -/

namespace Sys2Proof.Machine

/-! ## What a legal configuration gives (R296) -/

theorem Cfg.bufDepth_pos {c : Cfg} (h : c.outBuilt = true) : 0 < c.bufDepth := by
  have hl : c.outLegal = true := (Bool.and_eq_true_iff.mp h).2
  unfold Cfg.outLegal at hl
  split at hl <;> simp at hl <;> omega

theorem Cfg.inMps_pos {c : Cfg} (h : c.inBuilt = true) : 0 < c.inMps := by
  simp only [Cfg.inBuilt, Cfg.inLegal, Bool.and_eq_true, decide_eq_true_eq] at h
  omega

theorem Cfg.wordBytes_pos {c : Cfg} (h : c.inBuilt = true) (hc : c.inSide = .mbin) : 0 < c.wordBytes := by
  simp only [Cfg.inBuilt, Cfg.inLegal, hc, Bool.and_eq_true, decide_eq_true_eq] at h
  omega

/-! ## Reset (R46, R291) -/

theorem Regs.afterReset_tf_inv {r : Regs} {depth : Nat} (hpos : 0 < depth) (hwf : Memory.wf r.tf.mem = true)
    (hbelow : Cells.below depth r.tf.mem = true) : r.afterReset.tf.Inv depth where
  read_le := Nat.le_refl 0
  fits := Nat.zero_le depth
  base_lt := hpos
  mem_wf := hwf
  mem_below := hbelow

theorem Regs.afterReset_bd_inv (r : Regs) : r.afterReset.bd.Inv := fun _ => rfl

theorem Regs.afterReset_inep_inv {r : Regs} {mps : Nat} (hpos : 0 < mps) (hwf : Memory.wf r.inep.pbuf = true)
    (hbelow : Cells.below mps r.inep.pbuf = true) : r.afterReset.inep.Inv mps where
  filling := fun _ => hpos
  staged_len := nofun
  sending := nofun
  sending_ack := nofun
  owed_zlp := nofun
  idx_lt := hpos
  zlp_sent := nofun
  pbuf_wf := hwf
  pbuf_below := hbelow

/-- Nothing that a reset leaves is in reach, whatever the arrays hold (D27). -/
theorem written_of_afterReset {s : State} {r : Regs} (h : s.regs = r.afterReset) : s.Written := by
  constructor <;> simp [h, Regs.afterReset]

/-- The reset state of every configuration has the invariant (log 6 for `cnt` and `shreg`). -/
theorem resetOf_inv (c : Cfg) : (State.resetOf c).Inv where
  tf := fun h => Regs.afterReset_tf_inv (r := Regs.reset) (Cfg.bufDepth_pos h) rfl rfl
  bd := Regs.afterReset_bd_inv Regs.reset
  inep := fun h => Regs.afterReset_inep_inv (r := Regs.reset) (Cfg.inMps_pos h) rfl rfl
  mb := fun h hc => ⟨Cfg.wordBytes_pos h hc, Nat.two_pow_pos _⟩
  offer := fun _ _ h => nomatch h

/-! ## The TFIFO's tick keeps its ranges (R36, R126) -/

/-- The tick writes an entry (R111). -/
def Tfifo.writes (depth : Nat) (t : Tfifo) (i : TfIn) : Bool := i.we && !t.full depth

theorem tfTick_mem (depth : Nat) (t : Tfifo) (i : TfIn) :
    (tfTick depth t i).mem = if t.writes depth i then t.mem.write (t.wp depth) i.wd else t.mem := by
  unfold tfTick
  dsimp only
  split
  · rfl
  · split <;> rfl

theorem Tfifo.Inv.lt_of_writes {depth : Nat} {t : Tfifo} {i : TfIn} (hinv : t.Inv depth)
    (hw : t.writes depth i = true) : t.nC + t.nS < depth := by
  have hne : t.nC + t.nS ≠ depth := by simpa [Tfifo.full] using (Bool.and_eq_true_iff.mp hw).2
  exact Nat.lt_of_le_of_ne hinv.fits hne

/-- A tick moves the base of the ring on by what it read-commits, and what is then in reach lies within what was in
reach and the entry written, if one is. -/
theorem tfTick_reach {depth : Nat} {t : Tfifo} (i : TfIn) (hinv : t.Inv depth) :
    (tfTick depth t i).nRc ≤ (tfTick depth t i).nC ∧ (tfTick depth t i).crp < depth ∧
      ∃ d, (∀ k, ((tfTick depth t i).crp + k) % depth = (t.crp + (d + k)) % depth) ∧
        d + ((tfTick depth t i).nC + (tfTick depth t i).nS) ≤
          t.nC + t.nS + if t.writes depth i then 1 else 0 := by
  obtain ⟨hread, hfits, hbase, -, -⟩ := hinv
  have hr : t.nRc + (if (i.re && !t.empty) = true then 1 else 0) ≤ t.nC := by
    split
    next h => exact Tfifo.empty_eq_false.mp (by simpa using (Bool.and_eq_true_iff.mp h).2)
    next => exact hread
  unfold tfTick Tfifo.writes
  dsimp only
  generalize (if (i.re && !t.empty) = true then 1 else 0) = r at hr ⊢
  generalize (if (i.we && !t.full depth) = true then 1 else 0) = w
  cases hrc : i.rc
  · refine ⟨?_, ?_, 0, ?_, ?_⟩ <;> cases i.rdis <;> cases i.wc <;> cases i.wdis <;> simp <;> omega
  · refine ⟨Nat.zero_le _, Nat.mod_lt _ (by omega), t.nRc + r, fun k => ?_, ?_⟩
    · simp [Nat.add_assoc]
    · cases i.wc <;> cases i.wdis <;> simp <;> omega

theorem tfTick_inv {depth : Nat} {t : Tfifo} (i : TfIn) (hinv : t.Inv depth) : (tfTick depth t i).Inv depth := by
  obtain ⟨hread, hbase, d, -, hreach⟩ := tfTick_reach i hinv
  refine ⟨hread, ?_, hbase, ?_, ?_⟩
  · have hfits := hinv.fits
    split at hreach
    next hw => have := hinv.lt_of_writes hw; omega
    next => omega
  · rw [tfTick_mem]
    split
    · exact Memory.wf_write _ _ _ hinv.mem_wf
    · exact hinv.mem_wf
  · rw [tfTick_mem]
    split
    · exact Cells.below_write _ _ _ _ (Nat.mod_lt _ (by have := hinv.base_lt; omega)) hinv.mem_below
    · exact hinv.mem_below

/-! ## The BD's tick keeps its invariant (R39) -/

theorem bdTick_inv {b : Bd} (i : Inputs) (hinv : b.Inv) : (bdTick b i).Inv := by
  unfold bdTick
  split
  · exact nofun
  · split
    · exact fun _ => rfl
    · exact hinv

/-! ## INEP's tick keeps its invariants (R42) -/

theorem Inep.ready_iff {n : Inep} : n.ready = true ↔ n.staged = false ∧ n.zlpPending = false := by
  simp [Inep.ready]

/-- What INEP remembers of its producer's offer is no part of its invariants. -/
theorem Inep.Inv.withOffer {mps : Nat} {n : Inep} (hinv : n.Inv mps) (o : Option Offer) :
    ({ n with prevOffer := o } : Inep).Inv mps :=
  { hinv with }

theorem Inep.Inv.mps_pos {mps : Nat} {n : Inep} (hinv : n.Inv mps) : 0 < mps :=
  Nat.zero_lt_of_lt hinv.idx_lt

/-- INEP sends nothing it has not staged. -/
theorem Inep.Inv.not_sending {mps : Nat} {n : Inep} (hinv : n.Inv mps) (hs : n.staged = false) :
    n.txActive = false :=
  Bool.eq_false_iff.mpr fun ha => by simpa [hs] using (hinv.sending ha).1

/-- INEP awaits no ACK while it sends. -/
theorem Inep.Inv.not_sending_of_awaiting {mps : Nat} {n : Inep} (hinv : n.Inv mps) (hw : n.awaitingAck = true) :
    n.txActive = false :=
  Bool.eq_false_iff.mpr fun ha => by simpa [hw] using hinv.sending_ack ha

/-- While INEP takes bytes there is nothing that an ACK could be for (R217). -/
theorem Inep.Inv.not_awaiting {mps : Nat} {n : Inep} (hinv : n.Inv mps) (hr : n.ready = true) :
    n.awaitingAck = false := by
  obtain ⟨hs, hz⟩ := Inep.ready_iff.mp hr
  exact Bool.eq_false_iff.mpr fun hw => by simpa [hz] using hinv.zlp_sent hw hs

theorem inepFill_idle {c : Cfg} {n : Inep} {p : ByteStream} (h : (p.valid && n.ready) = false) : inepFill c n p = n := by
  simp [inepFill, h]

theorem inepToken_untargeted {n m : Inep} {req tgt : Bool} (h : (req && tgt) = false) : inepToken n req tgt m = m := by
  simp [inepToken, h]

theorem inepToken_nothingToSend {n m : Inep} {req tgt : Bool} (hs : n.staged = false) (hz : n.zlpPending = false) :
    inepToken n req tgt m = m := by
  simp [inepToken, hs, hz]

theorem inepTransmit_idle {n m : Inep} {txReady : Bool} (h : n.txActive = false) : inepTransmit n txReady m = m := by
  simp [inepTransmit, h]

theorem inepAck_notAwaited {n m : Inep} {ack tgt : Bool} (h : n.awaitingAck = false) : inepAck n ack tgt m = m := by
  simp [inepAck, h]

theorem inepAck_noAck {n m : Inep} {ack tgt : Bool} (h : ack = false) : inepAck n ack tgt m = m := by
  simp [inepAck, h]

/-- Of INEP's four sides at most one acts in a tick that takes neither MF9 nor MF11: while bytes are taken nothing is to
be sent, no request comes while it transmits or with an ACK, and no ACK is awaited while it transmits. -/
theorem inepTick_oneSide {c : Cfg} {n : Inep} {i : Inputs} (p : ByteStream) (hinv : n.Inv c.inMps)
    (h9 : (i.inReq && (i.tokIn && i.tokEp.toNat == c.inEp) && n.txActive) = false)
    (h11 : (i.inReq && i.hsInAck) = false) :
    ∃ m, inepTick c n i p = { m with prevOffer := pendingOffer p.valid n.ready ⟨p.data.toNat, p.first, p.last⟩ } ∧
      (m = inepFill c n p ∨ m = inepToken n i.inReq (i.tokIn && i.tokEp.toNat == c.inEp) n ∨
        m = inepTransmit n i.txReady n ∨ m = inepAck n i.hsInAck (i.tokIn && i.tokEp.toNat == c.inEp) n) := by
  unfold inepTick
  generalize (i.tokIn && i.tokEp.toNat == c.inEp) = tgt at h9 ⊢
  refine ⟨_, rfl, ?_⟩
  cases hx : p.valid && n.ready
  · rw [inepFill_idle hx]
    cases hq : i.inReq && tgt
    · rw [inepToken_untargeted hq]
      cases ha : n.txActive
      · exact .inr (.inr (.inr (by rw [inepTransmit_idle ha])))
      · exact .inr (.inr (.inl (inepAck_notAwaited (hinv.sending_ack ha))))
    · have ha : n.txActive = false := by simpa [hq] using h9
      have hk : i.hsInAck = false := by simpa [(Bool.and_eq_true_iff.mp hq).1] using h11
      exact .inr (.inl (by rw [inepTransmit_idle ha, inepAck_noAck hk]))
  · have hr := (Bool.and_eq_true_iff.mp hx).2
    obtain ⟨hs, hz⟩ := Inep.ready_iff.mp hr
    rw [inepToken_nothingToSend hs hz, inepTransmit_idle (hinv.not_sending hs),
      inepAck_notAwaited (hinv.not_awaiting hr)]
    exact .inl rfl

/-- A byte stored while INEP takes bytes (R203-R206): the packet is one byte longer, and closed where that fills it. -/
theorem Inep.Inv.storeByte {mps : Nat} {n : Inep} (hinv : n.Inv mps) (hr : n.ready = true) (b : Byte) {len : Nat}
    {staged zlp : Bool} (hlen : n.fillLen + 1 = len) (hopen : staged = false → len < mps)
    (hzlp : zlp = true → staged = true) :
    ({ n with pbuf := Cells.write n.pbuf n.fillLen b, fillLen := len, staged := staged, zlpPending := zlp }
      : Inep).Inv mps := by
  obtain ⟨hs, -⟩ := Inep.ready_iff.mp hr
  have hlt := hinv.filling hs
  have ha := hinv.not_sending hs
  have hw := hinv.not_awaiting hr
  exact { hinv with
    filling := hopen
    staged_len := fun _ => by dsimp only; omega
    sending := fun h => by simp [ha] at h
    owed_zlp := fun hz hs => by simp_all
    zlp_sent := fun h => by simp [hw] at h
    pbuf_wf := Memory.wf_write _ _ _ hinv.pbuf_wf
    pbuf_below := Cells.below_write _ _ _ _ hlt hinv.pbuf_below }

theorem inepFill_inv {c : Cfg} {n : Inep} (p : ByteStream) (hinv : n.Inv c.inMps) : (inepFill c n p).Inv c.inMps := by
  unfold inepFill
  split
  next hx =>
    have hr := (Bool.and_eq_true_iff.mp hx).2
    obtain ⟨hs, hz⟩ := Inep.ready_iff.mp hr
    have hlt := hinv.filling hs
    dsimp only
    split
    next hfull => exact hinv.storeByte hr _ (by simpa using hfull) nofun (fun _ => rfl)
    next hfull =>
      have hne : n.fillLen + 1 ≠ c.inMps := by simpa using hfull
      split
      · exact hinv.storeByte hr _ rfl nofun (fun _ => rfl)
      · exact hinv.storeByte hr _ rfl (fun _ => by omega) (by simp [hz])
  next => exact hinv

theorem inepToken_inv {mps : Nat} {n : Inep} {req tgt : Bool} (hinv : n.Inv mps) : (inepToken n req tgt n).Inv mps := by
  unfold inepToken
  split
  next h =>
    have hs : n.staged = true := (Bool.and_eq_true_iff.mp h).2
    exact { hinv with
      sending := fun _ => ⟨hs, (hinv.staged_len hs).1⟩
      sending_ack := fun _ => rfl
      idx_lt := hinv.mps_pos
      zlp_sent := nofun }
  next hsend =>
    split
    next h =>
      simp only [Bool.and_eq_true] at h hsend
      obtain ⟨hq, hz⟩ := h
      have hs : n.staged = false := by simpa [hq] using hsend
      exact { hinv with
        sending_ack := fun ha => by simp [hinv.not_sending hs] at ha
        zlp_sent := fun _ _ => hz }
    next => exact hinv

theorem inepTransmit_inv {mps : Nat} {n : Inep} {txReady : Bool} (hinv : n.Inv mps) :
    (inepTransmit n txReady n).Inv mps := by
  unfold inepTransmit
  split
  next h =>
    obtain ⟨hs, hlt⟩ := hinv.sending (Bool.and_eq_true_iff.mp h).1
    split
    · exact { hinv with
        sending := nofun
        sending_ack := nofun
        idx_lt := hinv.mps_pos
        zlp_sent := fun _ h => by simp [hs] at h }
    next hlast =>
      have hne : n.txIdx + 1 ≠ n.fillLen := by simpa [Inep.atLast] using hlast
      have hle := (hinv.staged_len hs).2
      exact { hinv with
        sending := fun _ => ⟨hs, by dsimp only; omega⟩
        idx_lt := by dsimp only; omega }
  next => exact hinv

theorem inepAck_inv {mps : Nat} {n : Inep} {ack tgt : Bool} (hinv : n.Inv mps) : (inepAck n ack tgt n).Inv mps := by
  unfold inepAck
  split
  next h =>
    have ha := hinv.not_sending_of_awaiting (Bool.and_eq_true_iff.mp h).2
    split
    · exact { hinv with
        filling := fun _ => hinv.mps_pos
        staged_len := nofun
        sending := fun h => by simp [ha] at h
        sending_ack := fun _ => rfl
        owed_zlp := fun _ _ => rfl
        zlp_sent := nofun }
    · exact { hinv with
        sending_ack := fun _ => rfl
        owed_zlp := nofun
        zlp_sent := nofun }
  next => exact hinv

theorem inepTick_inv {c : Cfg} {n : Inep} {i : Inputs} (p : ByteStream) (hinv : n.Inv c.inMps)
    (h9 : (i.inReq && (i.tokIn && i.tokEp.toNat == c.inEp) && n.txActive) = false)
    (h11 : (i.inReq && i.hsInAck) = false) : (inepTick c n i p).Inv c.inMps := by
  obtain ⟨m, hm, hside⟩ := inepTick_oneSide p hinv h9 h11
  rw [hm]
  apply Inep.Inv.withOffer
  rcases hside with rfl | rfl | rfl | rfl
  · exact inepFill_inv p hinv
  · exact inepToken_inv hinv
  · exact inepTransmit_inv hinv
  · exact inepAck_inv hinv

/-! ## MBIN's tick keeps its ranges (R43) -/

theorem mbinTick_inv {c : Cfg} {m : Mbin} (i : Inputs) (ready : Bool) (hinv : m.Inv c.wordBytes) :
    (mbinTick c m i ready).Inv c.wordBytes := by
  obtain ⟨hcnt, hshreg⟩ := hinv
  have hpos : c.wordBytes - 1 < c.wordBytes := by omega
  have hword : i.pData % 2 ^ (8 * c.wordBytes) < 2 ^ (8 * c.wordBytes) := Nat.mod_lt _ (Nat.two_pow_pos _)
  unfold mbinTick
  cases m.mbState
  · cases i.pValid
    · exact ⟨hcnt, hshreg⟩
    · exact ⟨hpos, hword⟩
  · cases ready
    · exact ⟨hcnt, hshreg⟩
    · by_cases h0 : m.cnt = 0
      · cases i.pValid <;> simp only [h0, ne_eq, not_true_eq_false, if_true, if_false]
        · exact ⟨by simpa [h0] using hcnt, hshreg⟩
        · exact ⟨hpos, hword⟩
      · simp only [h0, ne_eq, not_false_eq_true, if_true]
        exact ⟨Nat.lt_of_le_of_lt (Nat.sub_le _ _) hcnt, Nat.lt_of_le_of_lt (Nat.div_le_self _ _) hshreg⟩

/-- A byte that INEP does not take stays offered (R245). -/
theorem mbinTick_holds {c : Cfg} {m : Mbin} (i : Inputs) (hm : m.mbState = .transmit) :
    ∃ o, mbinTick c m i false = { m with prevOffer := o } := by
  simp [mbinTick, hm]

/-- What INEP then remembers as a pending offer is the byte that MBIN still offers (R242, R245). -/
theorem offerHeld_tick {c : Cfg} {r r' : Regs} {i : Inputs} {n : Nat}
    (hinep : r'.inep = inepTick c r.inep i
      ⟨(mbPorts c r n).iValid, (mbPorts c r n).iData, (mbPorts c r n).iFirst, (mbPorts c r n).iLast⟩)
    (hmb : r'.mb = mbinTick c r.mb i r.inep.ready) : offerHeld c r' := by
  intro _ o ho
  simp only [hinep, inepTick, pendingOffer] at ho
  split at ho
  next h =>
    simp only [Bool.and_eq_true, Bool.not_eq_true'] at h
    obtain ⟨hvalid, hready⟩ := h
    cases hm : r.mb.mbState <;> simp only [mbPorts, hm] at hvalid ho
    · simp at hvalid
    · obtain ⟨o', hheld⟩ := mbinTick_holds i hm (c := c)
      obtain rfl := Option.some.inj ho
      rw [hmb, hready, hheld]
      exact ⟨hm, rfl, rfl, rfl⟩
  next => cases ho

/-! ## What a step can do to the registers -/

/-- The TFIFO of OUTEP takes the tick of R125 on the inputs that OUTEP wires to it (R197). -/
theorem outepTick_tf (c : Cfg) (r : Regs) (i : Inputs) (free : Byte) :
    ∃ j, (outepTick c r i free).tf = tfTick c.bufDepth r.tf j := by
  unfold outepTick
  dsimp only
  exact ⟨_, rfl⟩

/-- One step later the OUT side's registers stand, or are reset, or are those of one tick of the TFIFO (and of the BD, in
OUTEP). -/
theorem afterStep_outRegs (s : State) :
    (s.afterStep.regs.tf = s.regs.tf ∧ s.afterStep.regs.bd = s.regs.bd) ∨
    (s.afterStep.regs.tf = s.regs.afterReset.tf ∧ s.afterStep.regs.bd = s.regs.afterReset.bd) ∨
    ∃ i, s.outLive ∧ s.afterStep.regs.tf = tfTick s.cfg.bufDepth s.regs.tf i ∧
      (s.afterStep.regs.bd = bdTick s.regs.bd s.openTick.inp ∨ s.afterStep.regs.bd = s.regs.bd) := by
  by_cases hl : s.outLive
  · cases hr : s.openTick.inp.rst
    · cases hf : s.openTick.outTickFault with
      | some f =>
        obtain ⟨htf, hbd, -⟩ := afterStep_sameOut_of_fault hl hr hf
        exact .inl ⟨htf, hbd⟩
      | none =>
        obtain ⟨htf, hbd, -⟩ := afterStep_sameOut_of_next hl hr hf
        rw [htf, hbd, State.takeOut_regs_tf, State.takeOut_regs_bd]
        cases hc : s.cfg.outSide
        · obtain ⟨htf, hbd, -⟩ := s.openTick.outTickDone_outep hc
          obtain ⟨i, hi⟩ := outepTick_tf s.cfg s.regs s.openTick.inp (Config.freeBdData s.draws)
          exact .inr (.inr ⟨i, hl, htf.trans hi, .inl hbd⟩)
        · obtain ⟨htf, hbd, -⟩ := s.openTick.outTickDone_tfifo hc
          exact .inr (.inr ⟨_, hl, htf, .inr hbd⟩)
    · have h := afterStep_sameOut s
      rw [outPart_live hl, hr] at h
      exact .inr (.inl ⟨h.1, h.2.1⟩)
  · obtain ⟨htf, hbd, -⟩ := sameOut_afterStep_of_not_outLive hl
    exact .inl ⟨htf, hbd⟩

/-- One step later the IN side's registers stand, or are reset, or are those of one tick of INEP (and of MBIN, where
there is one) that takes no fault. -/
theorem afterStep_inRegs (s : State) :
    (s.afterStep.regs.inep = s.regs.inep ∧ s.afterStep.regs.mb = s.regs.mb) ∨
    (s.afterStep.regs.inep = s.regs.afterReset.inep ∧ s.afterStep.regs.mb = s.regs.afterReset.mb) ∨
    (s.inLive ∧ s.openTick.inTickFault = none ∧
      s.afterStep.regs.inep = inepTick s.cfg s.regs.inep s.openTick.inp s.openTick.inepIn ∧
      (s.cfg.inSide = .mbin → s.afterStep.regs.mb = mbinTick s.cfg s.regs.mb s.openTick.inp s.regs.inep.ready)) := by
  by_cases hl : s.inLive
  · cases hr : s.openTick.inp.inRst
    · cases hf : s.openTick.inTickFault with
      | some f =>
        obtain ⟨hinep, hmb, -⟩ := afterStep_sameIn_of_fault hl hr hf
        exact .inl ⟨hinep, hmb⟩
      | none =>
        obtain ⟨hinep, hmb, -⟩ := afterStep_sameIn_of_next hl hr hf
        rw [hinep, hmb]
        obtain ⟨hdone, -⟩ := s.openTick.forIn.inTickDone_inep rfl
        exact .inr (.inr ⟨hl, rfl, hdone, fun hc => s.openTick.forIn.inTickDone_mb hc rfl⟩)
    · have h := afterStep_sameIn s
      rw [inPart_live hl, hr] at h
      exact .inr (.inl ⟨h.1, h.2.1⟩)
  · obtain ⟨hinep, hmb, -⟩ := sameIn_afterStep_of_not_inLive hl
    exact .inl ⟨hinep, hmb⟩

/-! ## Every step keeps the invariant -/

theorem afterStep_tf_inv {s : State} (hinv : s.regs.tf.Inv s.cfg.bufDepth) :
    s.afterStep.regs.tf.Inv s.cfg.bufDepth := by
  rcases afterStep_outRegs s with ⟨htf, -⟩ | ⟨htf, -⟩ | ⟨i, -, htf, -⟩ <;> rw [htf]
  · exact hinv
  · exact Regs.afterReset_tf_inv (Nat.zero_lt_of_lt hinv.base_lt) hinv.mem_wf hinv.mem_below
  · exact tfTick_inv i hinv

theorem afterStep_bd_inv {s : State} (hinv : s.regs.bd.Inv) : s.afterStep.regs.bd.Inv := by
  rcases afterStep_outRegs s with ⟨-, hbd⟩ | ⟨-, hbd⟩ | ⟨-, -, -, hbd | hbd⟩ <;> rw [hbd]
  · exact hinv
  · exact Regs.afterReset_bd_inv s.regs
  · exact bdTick_inv _ hinv
  · exact hinv

theorem afterStep_inep_inv {s : State} (hinv : s.regs.inep.Inv s.cfg.inMps) :
    s.afterStep.regs.inep.Inv s.cfg.inMps := by
  rcases afterStep_inRegs s with ⟨hinep, -⟩ | ⟨hinep, -⟩ | ⟨-, hf, hinep, -⟩ <;> rw [hinep]
  · exact hinv
  · exact Regs.afterReset_inep_inv hinv.mps_pos hinv.pbuf_wf hinv.pbuf_below
  · obtain ⟨h11, h9, -⟩ := inTickFault_none hf
    exact inepTick_inv _ hinv h9 h11

theorem afterStep_mb_inv {s : State} (hc : s.cfg.inSide = .mbin) (hinv : s.regs.mb.Inv s.cfg.wordBytes) :
    s.afterStep.regs.mb.Inv s.cfg.wordBytes := by
  rcases afterStep_inRegs s with ⟨-, hmb⟩ | ⟨-, hmb⟩ | ⟨-, -, -, hmb⟩
  · exact hmb ▸ hinv
  · exact hmb ▸ ⟨hinv.cnt_lt, hinv.shreg_lt⟩
  · exact hmb hc ▸ mbinTick_inv _ _ hinv

theorem afterStep_offerHeld {s : State} (hinv : offerHeld s.cfg s.regs) : offerHeld s.cfg s.afterStep.regs := by
  intro hc
  rcases afterStep_inRegs s with ⟨hinep, hmb⟩ | ⟨hinep, hmb⟩ | ⟨-, -, hinep, hmb⟩
  · rw [hinep, hmb]
    exact hinv hc
  · rw [hinep]
    exact nofun
  · have hport : s.openTick.inepIn = ⟨(mbPorts s.cfg s.regs s.draws).iValid, (mbPorts s.cfg s.regs s.draws).iData,
        (mbPorts s.cfg s.regs s.draws).iFirst, (mbPorts s.cfg s.regs s.draws).iLast⟩ := by
      simp [State.inepIn, hc, presented]
    exact offerHeld_tick (hport ▸ hinep) (hmb hc) hc

/-- Whatever a step answers, the registers have the invariant one step later. -/
theorem afterStep_inv {s : State} (hinv : s.Inv) : s.afterStep.Inv := by
  refine ⟨?_, afterStep_bd_inv hinv.bd, ?_, ?_, ?_⟩ <;> rw [afterStep_cfg]
  · exact fun hb => afterStep_tf_inv (hinv.tf hb)
  · exact fun hb => afterStep_inep_inv (hinv.inep hb)
  · exact fun hb hc => afterStep_mb_inv hc (hinv.mb hb hc)
  · exact afterStep_offerHeld hinv.offer

/-! ## Every step keeps what is in reach written (D27) -/

/-- Every entry of the committed range and of the run has been written. -/
def Tfifo.Written (depth : Nat) (t : Tfifo) : Prop :=
  ∀ k, k < t.nC + t.nS → (Cells.find? t.mem ((t.crp + k) % depth)).isSome = true

/-- Every byte of the packet, being filled or staged, has been written. -/
def Inep.Written (n : Inep) : Prop := ∀ k, k < n.fillLen → (Cells.find? n.pbuf k).isSome = true

theorem State.written_iff {s : State} : s.Written ↔ s.regs.tf.Written s.cfg.bufDepth ∧ s.regs.inep.Written :=
  ⟨fun h => ⟨h.mem, h.pbuf⟩, fun h => ⟨h.1, h.2⟩⟩

theorem Cells.find?_write_isSome {α : Type} {m : Cells α} {a b : Nat} (v : α)
    (h : b ≠ a → (Cells.find? m b).isSome = true) : (Cells.find? (Cells.write m a v) b).isSome = true := by
  rw [Cells.find?_write]
  split
  · rfl
  · exact h ‹_›

/-- What a tick brings into reach is the entry it writes. -/
theorem tfTick_written {depth : Nat} {t : Tfifo} (i : TfIn) (hinv : t.Inv depth) (hw : t.Written depth) :
    (tfTick depth t i).Written depth := by
  obtain ⟨-, -, d, hidx, hreach⟩ := tfTick_reach i hinv
  intro k hk
  rw [hidx, tfTick_mem]
  split at hreach
  next hwr =>
    rw [if_pos hwr]
    refine Cells.find?_write_isSome _ fun hne => hw _ ?_
    have : d + k ≠ t.nC + t.nS := by
      intro he
      exact hne (by rw [Tfifo.wp, he, Nat.add_assoc])
    omega
  next hwr =>
    rw [if_neg hwr]
    exact hw _ (by omega)

theorem inepFill_written {c : Cfg} {n : Inep} (p : ByteStream) (hw : n.Written) : (inepFill c n p).Written := by
  have hstore : ∀ k, k < n.fillLen + 1 → (Cells.find? (Cells.write n.pbuf n.fillLen p.data) k).isSome = true :=
    fun k hk => Cells.find?_write_isSome _ fun hne => hw k (by omega)
  unfold inepFill
  split
  · dsimp only
    split
    next hfull => exact fun k hk => hstore k (by simp_all)
    next =>
      split <;> exact hstore
  · exact hw

theorem inepToken_written {n : Inep} {req tgt : Bool} (hw : n.Written) : (inepToken n req tgt n).Written := by
  unfold inepToken
  split
  · exact hw
  · split <;> exact hw

theorem inepTransmit_written {n : Inep} {txReady : Bool} (hw : n.Written) : (inepTransmit n txReady n).Written := by
  unfold inepTransmit
  split
  · split <;> exact hw
  · exact hw

theorem inepAck_written {n : Inep} {ack tgt : Bool} (hw : n.Written) : (inepAck n ack tgt n).Written := by
  unfold inepAck
  split
  · split
    · exact nofun
    · exact hw
  · exact hw

theorem inepTick_written {c : Cfg} {n : Inep} {i : Inputs} (p : ByteStream) (hinv : n.Inv c.inMps)
    (h9 : (i.inReq && (i.tokIn && i.tokEp.toNat == c.inEp) && n.txActive) = false)
    (h11 : (i.inReq && i.hsInAck) = false) (hw : n.Written) : (inepTick c n i p).Written := by
  obtain ⟨m, hm, hside⟩ := inepTick_oneSide p hinv h9 h11
  rw [hm]
  show m.Written
  rcases hside with rfl | rfl | rfl | rfl
  · exact inepFill_written p hw
  · exact inepToken_written hw
  · exact inepTransmit_written hw
  · exact inepAck_written hw

theorem afterStep_tf_written {s : State} (hinv : s.Inv) (hw : s.regs.tf.Written s.cfg.bufDepth) :
    s.afterStep.regs.tf.Written s.cfg.bufDepth := by
  rcases afterStep_outRegs s with ⟨htf, -⟩ | ⟨htf, -⟩ | ⟨i, hl, htf, -⟩ <;> rw [htf]
  · exact hw
  · exact nofun
  · exact tfTick_written i (hinv.tf hl.1) hw

theorem afterStep_inep_written {s : State} (hinv : s.Inv) (hw : s.regs.inep.Written) :
    s.afterStep.regs.inep.Written := by
  rcases afterStep_inRegs s with ⟨hinep, -⟩ | ⟨hinep, -⟩ | ⟨hl, hf, hinep, -⟩ <;> rw [hinep]
  · exact hw
  · exact nofun
  · obtain ⟨h11, h9, -⟩ := inTickFault_none hf
    exact inepTick_written _ (hinv.inep hl.1) h9 h11 hw

theorem afterStep_written {s : State} (hinv : s.Inv) (hw : s.Written) : s.afterStep.Written := by
  obtain ⟨hmem, hpbuf⟩ := State.written_iff.mp hw
  rw [State.written_iff, afterStep_cfg]
  exact ⟨afterStep_tf_written hinv hmem, afterStep_inep_written hinv hpbuf⟩

/-! ## Who writes what (R40, R50) -/

/-- The scheduled registers `n` are `r` but for what row `i` may write. -/
def Regs.writtenBy (i : Instr) (r n : Regs) : Prop :=
  n = match i.vec with
    | .tf => { r with tf := n.tf }
    | .bd => { r with bd := n.bd }
    | .outResp => if i = .outDataAccept then { r with expectedDataToggle := n.expectedDataToggle } else r
    | .outRx | .outStr => r
    | .inFill | .inTok | .inTx | .inAck => { r with inep := n.inep }
    | .mb => { r with mb := n.mb }
    | .rst => n

/-- Where the answer is a next state, the registers it schedules satisfy `p`. -/
def Result.schedules (p : Regs → Prop) (r : Result) : Prop := ∀ t, r = .next t → p t.nxt

theorem Result.schedules_next {p : Regs → Prop} {s : State} (h : p s.nxt) : Result.schedules p (.next s) := by
  rintro t ⟨⟩
  exact h

theorem Result.schedules_raise (p : Regs → Prop) (f : Fault) : Result.schedules p (raise f) := by
  rintro t ⟨⟩

theorem Result.schedules_unlessFault {p : Regs → Prop} {s : State} (c : Bool) (f : Fault) (h : p s.nxt) :
    Result.schedules p (unlessFault c f s) := by
  cases c
  · exact Result.schedules_next h
  · exact Result.schedules_raise p f

theorem Instr.eq_reset_of_vec {i : Instr} (h : i.vec = .rst) : i = .reset := by
  cases i <;> cases h
  rfl

theorem exec_writtenBy (i : Instr) (s : State) : Result.schedules (Regs.writtenBy i s.nxt) (exec i s) := by
  cases i with
  | tfWriteFull | illegalTfMf5 | illegalTfMf6 | illegalBdMf1CompleteInvalid | illegalBdMf2NextComplete
  | illegalBdMf2NextInvalid | illegalOutrespMf3 | illegalIntokMf9 => exact Result.schedules_raise _ _
  | outDataAccept | outDataSkip | outDataNak | outRxWrite | inFillIdle | inFillByte | inCloseShort | inCloseFull
  | inCloseFullLast | inReqNotTargeted | inSendData | inSendZlp | inNak | inAckData | inAckZlp | inAckIgnored
  | mbIdleWait | mbHold => exact Result.schedules_unlessFault _ _ rfl
  | _ => exact Result.schedules_next rfl

/-! ## What the two sides share (R49, R278, R293) -/

/-- The tick `v` with all that the OUT side reads taken from the tick `u`: its own registers and outputs, and the ports,
but for the IN side's `rst`. -/
def State.outView (v u : State) : State :=
  { v.takeOut u with cfg := u.cfg, draws := u.draws, inp := { u.inp with inRst := v.inp.inRst } }

/-- The tick `v` with all that the IN side reads taken from the tick `u`, each as that side sees it (`State.forIn`). -/
def State.inView (v u : State) : State :=
  { v.takeIn u with cfg := u.cfg, draws := u.draws, inp := u.inp }

theorem State.outView_outTickFault (v u : State) : (v.outView u).outTickFault = u.outTickFault := rfl

theorem State.inView_inTickFault (v u : State) : (v.inView u).inTickFault = u.inTickFault := rfl

theorem State.outView_outTickDone (v u : State) {a b : State} (h : a.outFault = b.outFault) :
    (a.takeOut u.outTickDone).sameOut (b.takeOut (v.outView u).outTickDone) := by
  have hc : (v.outView u).cfg.outSide = u.cfg.outSide := rfl
  cases hs : u.cfg.outSide <;> rw [hs] at hc <;> simp only [State.outTickDone, State.outDone, hs, hc] <;>
    exact ⟨rfl, rfl, rfl, rfl, rfl, rfl, h.symm⟩

theorem State.inView_inTickDone (v u : State) {a b : State} (h : a.inFault = b.inFault) :
    (a.takeIn u.inTickDone).sameIn (b.takeIn (v.inView u).inTickDone) := by
  have hc : (v.inView u).cfg.inSide = u.cfg.inSide := rfl
  cases hs : u.cfg.inSide <;> rw [hs] at hc <;>
    simp only [State.inTickDone, State.inDone, State.watchOffers, State.inepDone, State.mbinDone, hs, hc]
  · exact ⟨rfl, rfl, rfl, rfl, h.symm⟩
  · exact ⟨rfl, rfl, rfl, rfl, h.symm⟩

/-- Ticks that read the same ports, but for the IN side's `rst`, with the same OUT side show the OUT side the same. -/
theorem State.openTick_outView {s t : State} {r : Bool} (hcfg : t.cfg = s.cfg) (hdraws : t.draws = s.draws)
    (hinp : t.nextInputs = { s.nextInputs with inRst := r }) (h : s.sameOut t) :
    t.openTick.outView s.openTick = t.openTick := by
  obtain ⟨htf, hbd, htog, -⟩ := h
  have hregs : { t.regs with
      tf := s.regs.tf, bd := s.regs.bd, expectedDataToggle := s.regs.expectedDataToggle } = t.regs := by
    rw [← htf, ← hbd, ← htog]
  simp [State.outView, State.takeOut, State.openTick, presented, tfPorts, bdPorts, outPorts, hcfg, hdraws, hinp, htf,
    hregs]

/-- Ticks that read the same ports, but for the OUT side's `rst`, with the same IN side show the IN side the same. -/
theorem State.openTick_inView {s t : State} {r : Bool} (hcfg : t.cfg = s.cfg) (hdraws : t.draws = s.draws)
    (hinp : t.nextInputs = { s.nextInputs with rst := r }) (h : s.sameIn t) :
    t.openTick.forIn.inView s.openTick.forIn = t.openTick.forIn := by
  obtain ⟨hinep, hmb, -⟩ := h
  have hregs : { t.regs with inep := s.regs.inep, mb := s.regs.mb } = t.regs := by
    rw [← hinep, ← hmb]
  simp [State.inView, State.takeIn, State.forIn, State.openTick, presented, inPorts, mbPorts, hcfg, hdraws, hinp, hinep,
    hmb, hregs]

theorem State.sameOut.symm {a b : State} (h : a.sameOut b) : b.sameOut a := by
  obtain ⟨h1, h2, h3, h4, h5, h6, h7⟩ := h
  exact ⟨h1.symm, h2.symm, h3.symm, h4.symm, h5.symm, h6.symm, h7.symm⟩

theorem State.sameIn.symm {a b : State} (h : a.sameIn b) : b.sameIn a := by
  obtain ⟨h1, h2, h3, h4, h5⟩ := h
  exact ⟨h1.symm, h2.symm, h3.symm, h4.symm, h5.symm⟩

/-- The OUT side's part leaves the same OUT side where the two ticks show it the same. -/
theorem adoptOut_outPart_congr {s t : State} (hcfg : t.cfg = s.cfg)
    (hv : t.openTick.outView s.openTick = t.openTick) (h : s.sameOut t) :
    (s.adoptOut s.outPart).sameOut (t.adoptOut t.outPart) := by
  have hof : t.outFault = s.outFault := h.2.2.2.2.2.2
  have hlive : t.outLive ↔ s.outLive := by simp only [State.outLive, hcfg, hof]
  by_cases hl : s.outLive
  · rw [outPart_live hl, outPart_live (hlive.mpr hl), ← hv, State.outView_outTickFault]
    have hrst : (t.openTick.outView s.openTick).inp.rst = s.openTick.inp.rst := rfl
    rw [hrst]
    cases s.openTick.inp.rst
    · cases s.openTick.outTickFault with
      | some f => exact State.adoptOut_congr (some (.fault f)) h
      | none => exact State.outView_outTickDone t.openTick s.openTick hof.symm
    · exact ⟨rfl, rfl, rfl, rfl, rfl, rfl, hof⟩
  · rw [outPart_none hl, outPart_none (mt hlive.mp hl)]
    exact h

/-- The IN side's part leaves the same IN side where the two ticks show it the same. -/
theorem adoptIn_inPart_congr {s t : State} (hcfg : t.cfg = s.cfg)
    (hv : t.openTick.forIn.inView s.openTick.forIn = t.openTick.forIn) (h : s.sameIn t) :
    (s.adoptIn s.inPart).sameIn (t.adoptIn t.inPart) := by
  have hif : t.inFault = s.inFault := h.2.2.2.2
  have hlive : t.inLive ↔ s.inLive := by simp only [State.inLive, hcfg, hif]
  by_cases hl : s.inLive
  · have hrst : t.openTick.inp.inRst = s.openTick.inp.inRst := congrArg (fun u => u.inp.rst) hv.symm
    have hfault : t.openTick.forIn.inTickFault = s.openTick.forIn.inTickFault := by
      rw [← hv, State.inView_inTickFault]
    change t.openTick.inTickFault = s.openTick.inTickFault at hfault
    rw [inPart_live hl, inPart_live (hlive.mpr hl), hrst, hfault, ← hv]
    cases s.openTick.inp.inRst
    · cases s.openTick.inTickFault with
      | some f => exact State.adoptIn_congr (some (.fault f)) h
      | none => exact State.inView_inTickDone t.openTick.forIn s.openTick.forIn hif.symm
    · exact ⟨rfl, rfl, rfl, rfl, hif⟩
  · rw [inPart_none hl, inPart_none (mt hlive.mp hl)]
    exact h

/-- What a step leaves of the OUT side depends on the OUT side and the ports alone, but for the IN side's `rst`. -/
theorem afterStep_sameOut_congr {s t : State} {r : Bool} (hcfg : t.cfg = s.cfg) (hdraws : t.draws = s.draws)
    (hinp : t.nextInputs = { s.nextInputs with inRst := r }) (h : s.sameOut t) : s.afterStep.sameOut t.afterStep :=
  (afterStep_sameOut s).symm.trans
    ((adoptOut_outPart_congr hcfg (State.openTick_outView hcfg hdraws hinp h) h).trans (afterStep_sameOut t))

/-- What a step leaves of the IN side depends on the IN side and the ports alone, but for the OUT side's `rst`. -/
theorem afterStep_sameIn_congr {s t : State} {r : Bool} (hcfg : t.cfg = s.cfg) (hdraws : t.draws = s.draws)
    (hinp : t.nextInputs = { s.nextInputs with rst := r }) (h : s.sameIn t) : s.afterStep.sameIn t.afterStep :=
  (afterStep_sameIn s).symm.trans
    ((adoptIn_inPart_congr hcfg (State.openTick_inView hcfg hdraws hinp h) h).trans (afterStep_sameIn t))

end Sys2Proof.Machine

/-! ## The statements -/

namespace Sys2Proof.Proofs

open Sys2Proof.Machine

/-- Settles O39: each side's registers stand, are reset, or take one tick that keeps their ranges. -/
theorem stepKeepsTheInvariants : Obligations.StepKeepsTheInvariants :=
  fun _ _ hinv h => afterStep_of_next h ▸ afterStep_inv hinv

/-- Settles O40: what a tick brings into reach, it writes. -/
theorem stepKeepsReachableEntriesWritten : Obligations.StepKeepsReachableEntriesWritten :=
  fun _ _ hinv hw h => afterStep_of_next h ▸ afterStep_written hinv hw

/-- Settles O26: a row of a vector writes the registers of that vector's component alone. -/
theorem rowsWriteTheirComponent : Obligations.RowsWriteTheirComponent := by
  intro i s t h hi
  have hw := exec_writtenBy i s t h
  unfold Regs.writtenBy at hw
  cases hv : i.vec with
  | rst => exact absurd (Instr.eq_reset_of_vec hv) hi
  | outResp =>
    simp only [hv] at hw
    split at hw
    next ha => rw [hw]; simp [ha]
    next => rw [hw]; simp
  | _ => simp only [hv] at hw; rw [hw]; simp

/-- Settles O7: a recorded fault stops its side, reset tick or not (R271). -/
theorem resetLeavesTheStatedValues : Obligations.ResetLeavesTheStatedValues := by
  refine ⟨fun s hs => ?_, fun s f hf _ => ?_, fun s f hf _ => ?_⟩
  · have hregs : s.regs = Regs.reset ∧ s.outFault = none ∧ s.inFault = none := by
      rcases hs with rfl | ⟨c, rfl⟩ <;> exact ⟨rfl, rfl, rfl⟩
    obtain ⟨hregs, hof, hif⟩ := hregs
    simp [hregs, hof, hif, Regs.reset, Cells.find?]
  · obtain ⟨-, -, -, -, -, -, hof⟩ := sameOut_afterStep_of_not_outLive (not_outLive_of_outFault hf)
    exact hof.trans hf
  · obtain ⟨-, -, -, -, hif⟩ := sameIn_afterStep_of_not_inLive (not_inLive_of_inFault hf)
    exact hif.trans hf

/-- Settles O8: the reset state holds the values a reset tick leaves (R46, R291), its arrays empty. -/
theorem invariantsHoldAtReset : Obligations.InvariantsHoldAtReset := by
  have h : ∀ c, (State.resetOf c).Inv ∧ (State.resetOf c).Written :=
    fun c => ⟨resetOf_inv c, written_of_afterReset (r := Regs.reset) rfl⟩
  exact ⟨h, h Cfg.scenario⟩

/-- Settles O52: the consumer's outputs show the entry at the read index, which is in the committed range (R184). -/
theorem uncommittedRunIsInvisible : Obligations.UncommittedRunIsInvisible := by
  intro s s' hcfg hc hdraws hcrp hnRc hnC hmem
  have hempty : s'.regs.tf.empty = s.regs.tf.empty := by simp [Tfifo.empty, hnRc, hnC]
  cases he : s.regs.tf.empty
  · have hrp : s'.regs.tf.rp s.cfg.bufDepth = s.regs.tf.rp s.cfg.bufDepth := by simp [Tfifo.rp, hcrp, hnRc]
    rw [State.openTick_outp he, State.openTick_outp (hempty.trans he), hcfg, hrp]
    exact congrArg offerOf (hmem _ (Tfifo.empty_eq_false.mp he))
  · simp [presented, outPorts, tfPorts, hempty, he, hdraws]

/-- Settles O53: a side's part of a step reads its own registers and the ports alone, each side its own `rst`. -/
theorem instancesAreIndependent : Obligations.InstancesAreIndependent := by
  refine ⟨fun s s' hcfg hinp hscript hdraws => ?_, fun s l ls b => ⟨?_, ?_⟩⟩
  · have hnext : s'.nextInputs = s.nextInputs := by rw [State.nextInputs, hinp, hscript, State.nextInputs]
    exact ⟨afterStep_sameOut_congr (r := s.nextInputs.inRst) hcfg hdraws hnext,
      afterStep_sameIn_congr (r := s.nextInputs.rst) hcfg hdraws hnext⟩
  · exact afterStep_sameOut_congr (r := b) rfl rfl rfl ⟨rfl, rfl, rfl, rfl, rfl, rfl, rfl⟩
  · exact afterStep_sameIn_congr (r := b) rfl rfl rfl ⟨rfl, rfl, rfl, rfl, rfl⟩

end Sys2Proof.Proofs
end

section
/-! SUPPORT. Proofs of the statements of 20_memory.md: the queue that the TFIFO stands for (R110, R71), tick by tick,
and over any ticks of OUTEP what the consumer takes of it (R70, R193, R310). -/

namespace Sys2Proof.Machine

/-! ## Entries of the ring (R37) -/

@[simp] theorem ringEntries_zero (depth : Nat) (m : Cells Entry) (a : Nat) : ringEntries depth m a 0 = [] := rfl

@[simp] theorem ringEntries_one (depth : Nat) (m : Cells Entry) (a : Nat) :
    ringEntries depth m a 1 = [readMem m (a % depth)] := rfl

theorem ringEntries_add (depth : Nat) (m : Cells Entry) (a n k : Nat) :
    ringEntries depth m a (n + k) = ringEntries depth m a n ++ ringEntries depth m (a + n) k := by
  simp [ringEntries, List.range_add, Nat.add_assoc]

/-- The ring is read from an index, whatever count leads to it. -/
@[simp] theorem ringEntries_mod (depth : Nat) (m : Cells Entry) (a n : Nat) :
    ringEntries depth m (a % depth) n = ringEntries depth m a n := by
  simp [ringEntries]

@[simp] theorem ringEntries_mod_add (depth : Nat) (m : Cells Entry) (a b n : Nat) :
    ringEntries depth m (a % depth + b) n = ringEntries depth m (a + b) n := by
  simp [ringEntries, Nat.add_assoc]

/-- A write less than a whole ring behind the first of some entries, and not among them, leaves them. -/
theorem ringEntries_write {depth p a n : Nat} (m : Cells Entry) (e : Entry) (hle : a + n ≤ p) (hlt : p < a + depth) :
    ringEntries depth (m.write (p % depth) e) a n = ringEntries depth m a n := by
  refine List.map_congr_left fun k hk => ?_
  have hk : k < n := List.mem_range.mp hk
  rw [readMem_write, if_neg]
  intro heq
  have := Nat.mod_injOn_Ico a depth (by simp; omega) (by simp; omega) heq
  omega

/-- A write right behind some entries appends to them. -/
theorem ringEntries_write_next {depth a n : Nat} (m : Cells Entry) (e : Entry) (hlt : n < depth) :
    ringEntries depth (m.write ((a + n) % depth) e) a (n + 1) = ringEntries depth m a n ++ [e] := by
  rw [ringEntries_add, ringEntries_write m e (Nat.le_refl _) (by omega), ringEntries_one, readMem_write, if_pos rfl]

/-! ## The queue's unread entries (R112, R115) -/

/-- `empty` says that no committed entry is unread. -/
theorem Tfifo.queue_unread_eq_nil {depth : Nat} {t : Tfifo} : (t.queue depth).unread = [] ↔ t.empty = true := by
  simp [Tfifo.queue, ringEntries, Tfifo.empty]

/-- Where nothing is committed, nothing is unread. -/
theorem State.queue_unread_of_nC_zero {s : State} (h : s.regs.tf.nC = 0) : s.queue.unread = [] :=
  Tfifo.queue_unread_eq_nil.mpr (by simp [Tfifo.empty, h])

/-- The oldest unread entry is the one at the read index. -/
theorem Tfifo.queue_unread_cons {depth : Nat} {t : Tfifo} (h : t.nRc < t.nC) :
    (t.queue depth).unread =
      readMem t.mem (t.rp depth) :: ringEntries depth t.mem (t.crp + (t.nRc + 1)) (t.nC - (t.nRc + 1)) := by
  have hn : t.nC - t.nRc = 1 + (t.nC - (t.nRc + 1)) := by omega
  rw [Tfifo.queue, hn, ringEntries_add, ringEntries_one, List.singleton_append, Nat.add_assoc, Tfifo.rp]

/-! ## A tick of the TFIFO is a tick of its queue (R110, R118-R123) -/

/-- `n_rc` with this tick's read (R111). -/
def Tfifo.nRcNow (t : Tfifo) (i : TfIn) : Nat := t.nRc + if i.re && !t.empty then 1 else 0

/-- `n_s` with this tick's write, where it is not an overrun (R111). -/
def Tfifo.nSNow (t : Tfifo) (i : TfIn) : Nat := t.nS + if i.we then 1 else 0

/-- `n_c` with what this tick commits (R118). -/
def Tfifo.nCNow (t : Tfifo) (i : TfIn) : Nat := if i.wc then t.nC + t.nSNow i else t.nC

section
variable {depth : Nat} {t : Tfifo} {i : TfIn}

theorem Tfifo.nRcNow_le_nC (i : TfIn) (hinv : t.Inv depth) : t.nRcNow i ≤ t.nC := by
  have hread := hinv.read_le
  unfold Tfifo.nRcNow
  split
  next h => exact Tfifo.empty_eq_false.mp (by simpa using (Bool.and_eq_true_iff.mp h).2)
  next => exact hread

theorem Tfifo.nC_le_nCNow (t : Tfifo) (i : TfIn) : t.nC ≤ t.nCNow i := by
  unfold Tfifo.nCNow
  split <;> omega

/-- R125 without an overrun, register by register. -/
theorem tfTick_regs (hfull : (i.we && t.full depth) = false) :
    tfTick depth t i =
      { mem := (tfTick depth t i).mem
        crp := if i.rc then (t.crp + t.nRcNow i) % depth else t.crp
        nRc := if i.rc || i.rdis then 0 else t.nRcNow i
        nC := if i.rc then t.nCNow i - t.nRcNow i else t.nCNow i
        nS := if i.wc || i.wdis then 0 else t.nSNow i } := by
  have hw : (i.we && !t.full depth) = i.we := by
    cases hwe : i.we
    · rfl
    · simpa [hwe] using hfull
  cases hwc : i.wc <;> cases hrc : i.rc <;> cases hrd : i.rdis <;>
    simp [tfTick, hw, hwc, hrc, hrd, Tfifo.nCNow, Tfifo.nSNow, Tfifo.nRcNow]

/-- A write touches no entry in reach (R126). -/
theorem tfTick_keeps_entries (hinv : t.Inv depth) {a n : Nat} (ha : t.crp ≤ a) (hn : a + n ≤ t.crp + t.nC + t.nS) :
    ringEntries depth (tfTick depth t i).mem a n = ringEntries depth t.mem a n := by
  rw [tfTick_mem]
  split
  next hw =>
    have := hinv.lt_of_writes hw
    exact ringEntries_write _ _ hn (by omega)
  next => rfl

/-- The entries read by the end of the tick are those held before and the oldest unread one, if the tick reads it. -/
theorem tfTick_heldNow (hinv : t.Inv depth) :
    ringEntries depth (tfTick depth t i).mem t.crp (t.nRcNow i) =
      if i.re then (t.queue depth).held ++ (t.queue depth).unread.take 1 else (t.queue depth).held := by
  have hle := Tfifo.nRcNow_le_nC i hinv
  rw [tfTick_keeps_entries hinv (Nat.le_refl _) (by omega)]
  cases hre : i.re
  · simp [Tfifo.nRcNow, hre, Tfifo.queue]
  · cases he : t.empty
    · rw [Tfifo.queue_unread_cons (Tfifo.empty_eq_false.mp he)]
      simp [Tfifo.nRcNow, hre, he, ringEntries_add, Tfifo.queue, Tfifo.rp]
    · rw [Tfifo.queue_unread_eq_nil.mpr he]
      simp [Tfifo.nRcNow, he, Tfifo.queue]

/-- The committed entries still unread by the end of the tick are those unread before, but for the one it reads. -/
theorem tfTick_unreadNow (hinv : t.Inv depth) :
    ringEntries depth (tfTick depth t i).mem (t.crp + t.nRcNow i) (t.nC - t.nRcNow i) =
      if i.re then (t.queue depth).unread.drop 1 else (t.queue depth).unread := by
  have hle := Tfifo.nRcNow_le_nC i hinv
  rw [tfTick_keeps_entries hinv (Nat.le_add_right _ _) (by omega)]
  cases hre : i.re
  · simp [Tfifo.nRcNow, hre, Tfifo.queue]
  · cases he : t.empty
    · rw [Tfifo.queue_unread_cons (Tfifo.empty_eq_false.mp he)]
      simp [Tfifo.nRcNow, hre, he]
    · rw [Tfifo.queue_unread_eq_nil.mpr he]
      have : t.nC - t.nRc = 0 := by simpa [Tfifo.empty] using he
      simp [Tfifo.nRcNow, he, this]

/-- The run with this tick's write. -/
theorem tfTick_runNow (hinv : t.Inv depth) (hfull : (i.we && t.full depth) = false) :
    ringEntries depth (tfTick depth t i).mem (t.crp + t.nC) (t.nSNow i) =
      if i.we then (t.queue depth).run ++ [i.wd] else (t.queue depth).run := by
  cases hw : i.we
  · simpa [Tfifo.nSNow, Tfifo.queue, hw] using tfTick_keeps_entries hinv (Nat.le_add_right _ _) (Nat.le_refl _)
  · have hwr : t.writes depth i = true := by simp_all [Tfifo.writes]
    have := hinv.lt_of_writes hwr
    rw [tfTick_mem, if_pos hwr, Tfifo.nSNow, hw]
    exact ringEntries_write_next t.mem i.wd (by omega)

/-- What this tick commits joins the end of the unread entries. -/
theorem tfTick_unreadAndCommitted (hinv : t.Inv depth) :
    ringEntries depth (tfTick depth t i).mem (t.crp + t.nRcNow i) (t.nCNow i - t.nRcNow i) =
      ringEntries depth (tfTick depth t i).mem (t.crp + t.nRcNow i) (t.nC - t.nRcNow i) ++
        if i.wc then ringEntries depth (tfTick depth t i).mem (t.crp + t.nC) (t.nSNow i) else [] := by
  have hle := Tfifo.nRcNow_le_nC i hinv
  cases hwc : i.wc
  · simp [Tfifo.nCNow, hwc]
  · have hn : t.nCNow i - t.nRcNow i = (t.nC - t.nRcNow i) + t.nSNow i := by
      simp only [Tfifo.nCNow, hwc, if_true]
      omega
    have ha : t.crp + t.nRcNow i + (t.nC - t.nRcNow i) = t.crp + t.nC := by omega
    rw [hn, ringEntries_add, ha, if_pos rfl]

/-- R110: without an overrun, one tick of the TFIFO does to the queue it stands for what the contract says. -/
theorem tfTick_queue (hinv : t.Inv depth) (hfull : (i.we && t.full depth) = false) :
    (tfTick depth t i).queue depth = (t.queue depth).tick i := by
  have hheld := tfTick_heldNow (i := i) hinv
  have hunread := tfTick_unreadNow (i := i) hinv
  have hrun := tfTick_runNow hinv hfull
  have hjoin := tfTick_unreadAndCommitted (i := i) hinv
  have hall := ringEntries_add depth (tfTick depth t i).mem t.crp (t.nRcNow i) (t.nCNow i - t.nRcNow i)
  rw [Nat.add_sub_cancel' ((Tfifo.nRcNow_le_nC i hinv).trans (t.nC_le_nCNow i))] at hall
  rw [tfTick_regs hfull]
  generalize (tfTick depth t i).mem = m at *
  unfold Queue.tick
  rw [← hheld, ← hunread, ← hrun]
  unfold Tfifo.queue
  congr 1
  · cases i.rc <;> cases i.rdis <;> simp
  · cases i.rc <;> cases i.rdis <;> simp [hall, hjoin]
  · cases hd : i.wc || i.wdis
    · have hnC : t.nCNow i = t.nC := by simp [Tfifo.nCNow, (Bool.or_eq_false_iff.mp hd).1]
      have hidx : t.crp + t.nRcNow i + (t.nC - t.nRcNow i) = t.crp + t.nC := by
        have := Tfifo.nRcNow_le_nC i hinv
        omega
      cases i.rc <;> simp [hnC, hidx]
    · simp
end

/-! ## A tick of the queue, its reads committed at once (R188) -/

/-- The entries that a tick of the queue commits (R118). -/
def Queue.committed (q : Queue) (i : TfIn) : List Entry :=
  if i.wc then if i.we then q.run ++ [i.wd] else q.run else []

/-- What a tick reads and what it leaves unread are what was unread and what it commits, in order. -/
theorem Queue.tick_conserves_unread (q : Queue) {i : TfIn} (hrc : i.rc = true) :
    (if i.re then q.unread.take 1 else []) ++ (q.tick i).unread = q.unread ++ q.committed i := by
  cases hre : i.re
  · simp [Queue.tick, Queue.committed, hrc, hre]
  · simp only [Queue.tick, Queue.committed, hrc, hre, if_true]
    rw [← List.append_assoc, List.take_append_drop]

/-! ## Runs -/

/-- A recorded fault of the OUT side is there at the end of any run (R271). -/
theorem after_outFault {f : Fault} (k : Nat) {s : State} (h : s.outFault = some f) :
    (State.after k s).outFault = some f := by
  induction k generalizing s with
  | zero => exact h
  | succ k ih =>
    obtain ⟨-, -, -, -, -, -, hof⟩ := sameOut_afterStep_of_not_outLive (not_outLive_of_outFault h)
    exact ih (hof.trans h)

/-- The first tick of a clean run is no reset tick and takes no fault, and the rest is a clean run. -/
theorem State.outClean_succ {k : Nat} {s : State} (h : s.outClean (k + 1)) :
    s.openTick.inp.rst = false ∧ s.openTick.outTickFault = none ∧ s.afterStep.outClean k := by
  obtain ⟨hl, hcount, hend⟩ := h
  obtain ⟨hfirst, hrest⟩ := Nat.add_eq_zero_iff.mp hcount
  have hr : s.openTick.inp.rst = false := by
    simpa only [ite_eq_right_iff, one_ne_zero, imp_false, Bool.not_eq_true] using hfirst
  have hf : s.openTick.outTickFault = none := by
    cases hf : s.openTick.outTickFault with
    | none => rfl
    | some f =>
      obtain ⟨-, -, -, -, -, -, hof⟩ := afterStep_sameOut_of_fault hl hr hf
      exact nomatch (after_outFault k hof).symm.trans hend
  obtain ⟨-, -, -, -, -, -, hof⟩ := afterStep_sameOut_of_next hl hr hf
  exact ⟨hr, hf, ⟨afterStep_cfg s ▸ hl.1, hof.trans hl.2⟩, hrest, hend⟩

/-- What each tick conserves, any ticks conserve: `good` holds of the run to come, each tick of it takes `taken` out of
`stock` and puts `given` in. -/
theorem collect_conserves {α : Type} {taken given stock : State → List α} {good : Nat → State → Prop}
    (hrest : ∀ k s, good (k + 1) s → good k s.afterStep)
    (htick : ∀ k s, good (k + 1) s → taken s.openTick ++ stock s.afterStep = stock s ++ given s.openTick)
    (k : Nat) (s : State) (h : good k s) :
    s.collect taken k ++ stock (State.after k s) = stock s ++ s.collect given k := by
  induction k generalizing s with
  | zero => simp [State.collect, State.after]
  | succ k ih =>
    calc s.collect taken (k + 1) ++ stock (State.after (k + 1) s)
        = taken s.openTick ++ (s.afterStep.collect taken k ++ stock (State.after k s.afterStep)) :=
          List.append_assoc _ _ _
      _ = taken s.openTick ++ (stock s.afterStep ++ s.afterStep.collect given k) := by rw [ih _ (hrest k s h)]
      _ = stock s ++ given s.openTick ++ s.afterStep.collect given k := by rw [← List.append_assoc, htick k s h]
      _ = stock s ++ s.collect given (k + 1) := List.append_assoc _ _ _

/-! ## A tick of OUTEP and its queue (R188, R197) -/

/-- The ports of OUTEP's TFIFO in the tick that opened as `s` (R197). -/
def State.outepTfIn (s : State) : TfIn :=
  let b := bdOut s.regs.bd s.inp (Config.freeBdData s.draws)
  { we := s.okayToReceive && s.bdEmits, wd := packEntry b.bdFirst b.bdLast b.bdData,
    wc := s.inp.rxComplete, wdis := s.inp.rxInvalid,
    re := !s.regs.tf.empty && s.inp.sReady, rc := true, rdis := false }

/-- A tick of OUTEP without reset and without fault is a tick of its TFIFO on these ports (R197). -/
theorem afterStep_tf_outep {s : State} (hc : s.cfg.outSide = .outep) (hl : s.outLive)
    (hr : s.openTick.inp.rst = false) (hf : s.openTick.outTickFault = none) :
    s.afterStep.regs.tf = tfTick s.cfg.bufDepth s.regs.tf s.openTick.outepTfIn := by
  obtain ⟨htf, -⟩ := afterStep_sameOut_of_next hl hr hf
  obtain ⟨hdone, -⟩ := s.openTick.outTickDone_outep hc
  exact htf.trans hdone

/-- The queue of OUTEP's TFIFO after such a tick (R110). -/
theorem afterStep_queue_outep {s : State} (hinv : s.Inv) (hc : s.cfg.outSide = .outep) (hl : s.outLive)
    (hr : s.openTick.inp.rst = false) (hf : s.openTick.outTickFault = none) :
    s.afterStep.queue = s.queue.tick s.openTick.outepTfIn := by
  obtain ⟨-, -, -, -, -, -, h7⟩ := outTickFault_none hf
  have hfull : (s.openTick.outepTfIn.we && s.regs.tf.full s.cfg.bufDepth) = false := by
    rw [State.mf7, State.openTick_cfg, hc] at h7
    exact h7
  rw [State.queue, afterStep_cfg, afterStep_tf_outep hc hl hr hf]
  exact tfTick_queue (hinv.tf hl.1) hfull

/-- The consumer takes the oldest unread entry (R185), if it is ready. -/
theorem State.takenByConsumer_eq (s : State) :
    s.takenByConsumer = if s.outepTfIn.re then s.queue.unread.take 1 else [] := by
  show (if s.outepTfIn.re then [readMem s.regs.tf.mem (s.regs.tf.rp s.cfg.bufDepth)] else []) = _
  split
  next hre =>
    have he : s.regs.tf.empty = false := by simpa using (Bool.and_eq_true_iff.mp hre).1
    rw [State.queue, Tfifo.queue_unread_cons (Tfifo.empty_eq_false.mp he), List.take_succ_cons, List.take_zero]
  next => rfl

/-- What OUTEP commits (R182) is the run with this tick's write. -/
theorem State.committedNow_eq (s : State) : s.committedNow = s.queue.committed s.outepTfIn := by
  unfold State.committedNow State.writtenNow Queue.committed
  cases hw : s.okayToReceive && s.bdEmits
  · simp [State.outepTfIn, hw]
  · have he := (Bool.and_eq_true_iff.mp hw).2
    unfold State.bdEmits at he
    simp [State.outepTfIn, hw, bdOut, he]

/-- Over a tick of OUTEP without reset and without fault no committed entry is lost or doubled, and the order stands. -/
theorem afterStep_conserves_unread {s : State} (hinv : s.Inv) (hc : s.cfg.outSide = .outep) (hl : s.outLive)
    (hr : s.openTick.inp.rst = false) (hf : s.openTick.outTickFault = none) :
    s.openTick.takenByConsumer ++ s.afterStep.queue.unread = s.queue.unread ++ s.openTick.committedNow := by
  have hq : s.openTick.queue = s.queue := rfl
  rw [afterStep_queue_outep hinv hc hl hr hf, State.takenByConsumer_eq, State.committedNow_eq, hq]
  exact Queue.tick_conserves_unread _ rfl

end Sys2Proof.Machine

/-! ## The statements -/

namespace Sys2Proof.Proofs

open Sys2Proof.Machine

/-- Settles O43: each tick conserves the committed entries, so any ticks do. -/
theorem consumerStreamIsFifo : Obligations.ConsumerStreamIsFifo := by
  intro k s hc hinv hclean
  refine collect_conserves (stock := fun s => s.queue.unread)
    (good := fun k s => s.cfg.outSide = .outep ∧ s.Inv ∧ s.outClean k) ?_ ?_ k s ⟨hc, hinv, hclean⟩
  · rintro k s ⟨hc, hinv, hclean⟩
    obtain ⟨-, -, hrest⟩ := State.outClean_succ hclean
    exact ⟨afterStep_cfg s ▸ hc, afterStep_inv hinv, hrest⟩
  · rintro k s ⟨hc, hinv, hclean⟩
    obtain ⟨hr, hf, -⟩ := State.outClean_succ hclean
    exact afterStep_conserves_unread hinv hc hclean.1 hr hf

/-- Settles O44: a TFIFO with nothing committed has nothing unread, at either end of the run. -/
theorem drainedRunDeliversAll : Obligations.DrainedRunDeliversAll := by
  intro k s hc hinv hnC hclean hdrained
  obtain ⟨-, hnC', -⟩ := hdrained
  have hfifo := consumerStreamIsFifo k s hc hinv hclean
  rwa [State.queue_unread_of_nC_zero hnC, State.queue_unread_of_nC_zero hnC', List.append_nil, List.nil_append] at hfifo

end Sys2Proof.Proofs
end

section
/-! SUPPORT. Proofs of the statements of 30_encoding.md: what the decoder answers (R80, R92-R102), the rows a tick runs
for each event vector (R103), what a row stops on (R104), and INEP's outputs in a tick (R91, R202, R212). -/

namespace Sys2Proof

/-! ## A row fires where its masked bits match (R80) -/

theorem bits8_eq_map (w : EvWord) : bits8 w = (List.range 8).map w.getLsbD := rfl

/-- Bits that are read off at the same places agree with the pattern at each place that the mask looks at. -/
theorem agreesWhere_map (ks : List Nat) (mask pattern value : Nat → Bool) :
    agreesWhere (ks.map mask) (ks.map pattern) (ks.map value) = true ↔
      ∀ k ∈ ks, mask k = true → value k = pattern k := by
  induction ks with
  | nil => simp [agreesWhere]
  | cons k ks ih =>
    cases hk : mask k <;> simp [agreesWhere, ih, hk]

/-- A pattern with no bit outside the mask is met by a masked value where the value agrees with it on the mask. -/
theorem and_mask_eq_iff {n : Nat} {mask pattern : BitVec n} (value : BitVec n) (hp : pattern &&& mask = pattern) :
    value &&& mask = pattern ↔ ∀ k < n, mask.getLsbD k = true → value.getLsbD k = pattern.getLsbD k := by
  rw [← hp, BitVec.eq_of_getLsbD_eq_iff]
  refine forall₂_congr fun k _ => ?_
  cases hk : mask.getLsbD k <;> simp [hk]

theorem Instr.matchWord_and_maskWord (i : Instr) : i.matchWord &&& i.maskWord = i.matchWord := by
  cases i <;> rfl

theorem Instr.firesOn_bits8 (i : Instr) (w : EvWord) :
    i.firesOn (bits8 w) = true ↔ w &&& i.maskWord = i.matchWord := by
  rw [and_mask_eq_iff w i.matchWord_and_maskWord, Instr.firesOn]
  simp only [bits8_eq_map, agreesWhere_map, List.mem_range]

/-! ## The rows of a vector -/

theorem Vec.width_le (v : Vec) : v.width ≤ 8 := by
  cases v <;> decide

theorem Vec.vec_of_mem_rows (v : Vec) : ∀ i ∈ v.rows, i.vec = v := by
  cases v <;> decide

theorem Instr.mem_rows_vec (i : Instr) : i ∈ i.vec.rows := by
  cases i <;> decide

theorem Vec.mem_rows {v : Vec} {i : Instr} : i ∈ v.rows ↔ i.vec = v :=
  ⟨v.vec_of_mem_rows i, fun h => h ▸ i.mem_rows_vec⟩

theorem Vec.nodup_rows (v : Vec) : v.rows.Nodup := by
  cases v <;> decide

theorem mem_firing {v : Vec} {ev : List Bool} {i : Instr} : i ∈ firing v ev ↔ i.vec = v ∧ i.firesOn ev = true := by
  rw [firing, List.mem_filter, Vec.mem_rows]

theorem mem_firing_bits8 {v : Vec} {w : EvWord} {i : Instr} :
    i ∈ firing v (bits8 w) ↔ i.vec = v ∧ w &&& i.maskWord = i.matchWord := by
  rw [mem_firing, Instr.firesOn_bits8]

theorem nodup_firing (v : Vec) (ev : List Bool) : (firing v ev).Nodup := v.nodup_rows.filter _

/-- No row fires exactly where no row's masked bits match (R100). -/
theorem firing_bits8_eq_nil {v : Vec} {w : EvWord} :
    firing v (bits8 w) = [] ↔ ∀ i : Instr, i.vec = v → w &&& i.maskWord ≠ i.matchWord := by
  simp only [List.eq_nil_iff_forall_not_mem, mem_firing_bits8, not_and, ne_eq]

/-! ## No row looks above its vector (R92-R102) -/

theorem agreesWhere_of_mask_false {mask : List Bool} (hm : ∀ m ∈ mask, m = false) (pattern value : List Bool) :
    agreesWhere mask pattern value = true := by
  induction mask generalizing pattern value with
  | nil => simp [agreesWhere]
  | cons m mask ih =>
    obtain ⟨rfl, hmask⟩ := List.forall_mem_cons.mp hm
    cases pattern <;> cases value <;> simp [agreesWhere, ih hmask]

/-- Where the mask is 0 from place `n` on, the bits from there on do not matter. -/
theorem agreesWhere_take {n : Nat} {mask : List Bool} (hm : ∀ m ∈ mask.drop n, m = false) (pattern value : List Bool) :
    agreesWhere mask pattern (value.take n) = agreesWhere mask pattern value := by
  induction n generalizing mask pattern value with
  | zero => exact (agreesWhere_of_mask_false hm ..).trans (agreesWhere_of_mask_false hm ..).symm
  | succ n ih =>
    rcases mask with _ | ⟨m, mask⟩
    · simp [agreesWhere]
    · cases pattern <;> cases value <;> simp [agreesWhere, ih hm]

theorem Instr.bits8_maskWord_drop (i : Instr) : ∀ m ∈ (bits8 i.maskWord).drop i.vec.width, m = false := by
  cases i <;> decide

theorem Instr.firesOn_take (i : Instr) (ev : List Bool) : i.firesOn (ev.take i.vec.width) = i.firesOn ev :=
  agreesWhere_take i.bits8_maskWord_drop _ _

/-- The rows that fire for a value of a vector fire for the vector's own bits of it. -/
theorem firing_take (v : Vec) (ev : List Bool) : firing v (ev.take v.width) = firing v ev := by
  refine List.filter_congr fun i hi => ?_
  obtain rfl := Vec.mem_rows.mp hi
  exact i.firesOn_take ev

/-! ## What the decoder answers -/

theorem Event.wf_iff {e : Event} : e.wf = true ↔ e.value.toNat < 2 ^ e.vec.width := by
  simp [Event.wf]

theorem decode_of_not_wf {e : Event} (h : e.wf = false) : decode e = .error .bitsAboveVector := by
  simp [decode, h]

theorem decode_of_firing_nil {e : Event} (h : e.wf = true) (hf : firing e.vec (bits8 e.value) = []) :
    decode e = .error .noRow := by
  simp [decode, h, hf]

theorem decode_of_firing {e : Event} (h : e.wf = true) (hf : firing e.vec (bits8 e.value) ≠ []) :
    decode e = .ok (firing e.vec (bits8 e.value)) := by
  cases hrows : firing e.vec (bits8 e.value) with
  | nil => exact absurd hrows hf
  | cons i is => simp [decode, h, hrows]

/-- The decoder's three answers: too wide a value, no row, or the rows that fire. -/
theorem decode_cases (e : Event) :
    (e.wf = false ∧ decode e = .error .bitsAboveVector) ∨
      (e.wf = true ∧ firing e.vec (bits8 e.value) = [] ∧ decode e = .error .noRow) ∨
      (e.wf = true ∧ firing e.vec (bits8 e.value) ≠ [] ∧ decode e = .ok (firing e.vec (bits8 e.value))) := by
  cases h : e.wf
  · exact .inl ⟨rfl, decode_of_not_wf h⟩
  · by_cases hf : firing e.vec (bits8 e.value) = []
    · exact .inr (.inl ⟨rfl, hf, decode_of_firing_nil h hf⟩)
    · exact .inr (.inr ⟨rfl, hf, decode_of_firing h hf⟩)

theorem rows_of_decode_ok {e : Event} {rows : List Instr} (h : decode e = .ok rows) :
    rows = firing e.vec (bits8 e.value) := by
  rcases decode_cases e with ⟨-, hd⟩ | ⟨-, -, hd⟩ | ⟨-, -, hd⟩ <;> cases hd.symm.trans h
  rfl

theorem firing_of_decode_noRow {e : Event} (h : decode e = .error .noRow) : firing e.vec (bits8 e.value) = [] := by
  rcases decode_cases e with ⟨-, hd⟩ | ⟨-, hf, -⟩ | ⟨-, -, hd⟩
  · cases hd.symm.trans h
  · exact hf
  · cases hd.symm.trans h

theorem decode_eq_noRow_iff {e : Event} (hwf : e.wf = true) :
    decode e = .error .noRow ↔ firing e.vec (bits8 e.value) = [] :=
  ⟨firing_of_decode_noRow, decode_of_firing_nil hwf⟩

theorem decode_ne_bitsAboveVector {e : Event} (hwf : e.wf = true) : decode e ≠ .error .bitsAboveVector := by
  intro h
  rcases decode_cases e with ⟨hw, -⟩ | ⟨-, -, hd⟩ | ⟨-, -, hd⟩
  · exact absurd hwf (by simp [hw])
  · cases hd.symm.trans h
  · cases hd.symm.trans h

/-- Every row's own word decodes to that row alone. -/
theorem decode_encode (i : Instr) : Laws.Encoding.Statement i := by
  cases i <;> rfl

/-! ## Exclusive rows (R93, R94, R96-R102) -/

theorem firesOn_illegalBdMf1CompleteInvalid (next complete invalid hold : Bool) :
    Instr.firesOn .illegalBdMf1CompleteInvalid [next, complete, invalid, hold] = (complete && invalid) := by
  revert next complete invalid hold
  decide

theorem firesOn_illegalBdMf2NextComplete (next complete invalid hold : Bool) :
    Instr.firesOn .illegalBdMf2NextComplete [next, complete, invalid, hold] = (next && complete) := by
  revert next complete invalid hold
  decide

theorem firesOn_illegalBdMf2NextInvalid (next complete invalid hold : Bool) :
    Instr.firesOn .illegalBdMf2NextInvalid [next, complete, invalid, hold] = (next && invalid) := by
  revert next complete invalid hold
  decide

theorem firesOn_illegalOutrespMf3 (data ping tgt space pid : Bool) :
    Instr.firesOn .illegalOutrespMf3 [data, ping, tgt, space, pid] = (data && ping) := by
  revert data ping tgt space pid
  decide

theorem firesOn_illegalIntokMf9 (req tgt staged zlp active : Bool) :
    Instr.firesOn .illegalIntokMf9 [req, tgt, staged, zlp, active] = (req && tgt && active) := by
  revert req tgt staged zlp active
  decide

/-- In a vector with exclusive rows one row fires for bits that no illegal row matches, with bit 0 set where the vector
asks for it (R100, R102). -/
theorem length_firing_exclusive {v : Vec} {w : EvWord} (htf : v ≠ .tf) (hrx : v ≠ .outRx)
    (hlegal : ∀ i : Instr, i.wf = false → i.vec = v → i.firesOn ((bits8 w).take v.width) = false)
    (hreq : v = .inAck ∨ v = .rst → w.getLsbD 0 = true) : (firing v ((bits8 w).take v.width)).length = 1 := by
  cases v with
  | tf => exact absurd rfl htf
  | outRx => exact absurd rfl hrx
  | bd =>
    have h1 := (firesOn_illegalBdMf1CompleteInvalid ..).symm.trans (hlegal _ rfl rfl)
    have h2 := (firesOn_illegalBdMf2NextComplete ..).symm.trans (hlegal _ rfl rfl)
    have h3 := (firesOn_illegalBdMf2NextInvalid ..).symm.trans (hlegal _ rfl rfl)
    refine (congrArg _ (firing_bd _ _ _ _ h1 (by rw [Bool.and_or_distrib_left, h2, h3]; rfl))).trans ?_
    split_ifs <;> rfl
  | outResp =>
    have h1 := (firesOn_illegalOutrespMf3 ..).symm.trans (hlegal _ rfl rfl)
    refine (congrArg _ (firing_outResp _ _ _ _ _ h1)).trans ?_
    split_ifs <;> rfl
  | outStr =>
    refine (congrArg _ (firing_outStr _ _)).trans ?_
    split_ifs <;> rfl
  | inFill =>
    refine (congrArg _ (firing_inFill _ _ _)).trans ?_
    split_ifs <;> rfl
  | inTok =>
    have h1 := (firesOn_illegalIntokMf9 ..).symm.trans (hlegal _ rfl rfl)
    refine (congrArg _ (firing_inTok _ _ _ _ _ h1)).trans ?_
    split_ifs <;> rfl
  | inTx =>
    refine (congrArg _ (firing_inTx _ _ _)).trans ?_
    split_ifs <;> rfl
  | inAck =>
    refine (congrArg _ (firing_inAck _ _ _)).trans ?_
    rw [hreq (.inl rfl), if_pos rfl]
    split_ifs <;> rfl
  | mb =>
    refine (congrArg _ (firing_mb _ _ _ _)).trans ?_
    split_ifs <;> rfl
  | rst =>
    refine (congrArg _ (firing_rst _)).trans ?_
    rw [hreq (.inr rfl), if_pos rfl]
    rfl

/-- Without `hs_in_ack` and without `rst` their vectors fire no row. -/
theorem firing_not_requested {v : Vec} {w : EvWord} (hv : v = .inAck ∨ v = .rst) (h0 : w.getLsbD 0 = false) :
    firing v ((bits8 w).take v.width) = [] := by
  rcases hv with rfl | rfl
  · exact (firing_inAck _ _ _).trans (by rw [h0]; rfl)
  · exact (firing_rst _).trans (by rw [h0]; rfl)

/-! ## Rows that exclude each other (R92, R95) -/

/-- The words of two rows disagree on a bit that both masks look at. -/
def Instr.excludes (i j : Instr) : Bool := i.matchWord &&& j.maskWord != j.matchWord &&& i.maskWord

/-- No value matches two rows that exclude each other: on the bits of both masks it would be both words. -/
theorem not_excludes_of_matches {i j : Instr} {w : EvWord} (hi : w &&& i.maskWord = i.matchWord)
    (hj : w &&& j.maskWord = j.matchWord) : i.excludes j = false := by
  have : i.matchWord &&& j.maskWord = j.matchWord &&& i.maskWord := by
    rw [← hi, ← hj, BitVec.and_assoc, BitVec.and_assoc, BitVec.and_comm i.maskWord]
  simp [Instr.excludes, this]

/-- Of rows that exclude one another at most one fires. -/
theorem countP_firing_le_one {group : List Instr} (hg : ∀ i ∈ group, ∀ j ∈ group, i = j ∨ i.excludes j = true)
    (v : Vec) (w : EvWord) : (firing v (bits8 w)).countP (fun i => decide (i ∈ group)) ≤ 1 := by
  rw [List.countP_eq_length_filter, ← List.toFinset_card_of_nodup ((nodup_firing v _).filter _), Finset.card_le_one]
  intro i hi j hj
  simp only [List.mem_toFinset, List.mem_filter, decide_eq_true_eq, mem_firing_bits8] at hi hj
  obtain ⟨⟨-, hmi⟩, hgi⟩ := hi
  obtain ⟨⟨-, hmj⟩, hgj⟩ := hj
  refine (hg i hgi j hgj).resolve_right ?_
  simp [not_excludes_of_matches hmi hmj]

/-! ## The bits of a vector as a value (R103) -/

/-- Bits, bit 0 first, as the value of an event vector; bits beyond the eighth are lost. -/
def evWordOfBits (bits : List Bool) : EvWord := (BitVec.ofBoolListLE bits).setWidth 8

theorem evWordOfBits_lt (bits : List Bool) : (evWordOfBits bits).toNat < 2 ^ bits.length := by
  rw [evWordOfBits, BitVec.toNat_setWidth]
  exact (Nat.mod_le _ _).trans_lt (BitVec.isLt _)

theorem bits8_evWordOfBits_take {bits : List Bool} (h : bits.length ≤ 8) :
    (bits8 (evWordOfBits bits)).take bits.length = bits := by
  refine List.ext_getElem (by simpa [bits8_eq_map] using h) fun k hk hk' => ?_
  have : k < 8 := by omega
  simp only [bits8_eq_map, List.getElem_take, List.getElem_map, List.getElem_range, evWordOfBits,
    BitVec.getLsbD_setWidth, BitVec.getLsbD_ofBoolListLE, this, decide_true, Bool.true_and, List.getD_eq_getElem _ _ hk']

end Sys2Proof

namespace Sys2Proof.Machine

theorem State.ev_length (v : Vec) (s : State) : (s.ev v).length = v.width := by
  cases v <;> rfl

/-- Each tick assembles a value of every vector. -/
theorem State.exists_value (v : Vec) (s : State) :
    ∃ w : EvWord, w.toNat < 2 ^ v.width ∧ s.ev v = (bits8 w).take v.width := by
  have hlen := s.ev_length v
  refine ⟨evWordOfBits (s.ev v), hlen ▸ evWordOfBits_lt _, ?_⟩
  have := bits8_evWordOfBits_take (hlen ▸ v.width_le : (s.ev v).length ≤ 8)
  rw [hlen] at this
  exact this.symm

/-- A vector with value `w` runs the rows that fire for `w`. -/
theorem runVec_of_value {v : Vec} {s : State} {w : EvWord} (h : s.ev v = (bits8 w).take v.width) :
    runVec v s = execAll (firing v (bits8 w)) s := by
  rw [runVec, h, firing_take]

/-! ## What a row stops on (R104) -/

/-- Where its condition holds, a guarded row raises its fault. -/
theorem unlessFault_of_cond {c : Bool} (h : c = true) (f : Fault) (s : State) : unlessFault c f s = .fault f := by
  rw [h, unlessFault_true]

/-! ## INEP's outputs, and what it stores (R202, R212) -/

theorem inepToken_pbuf (n m : Inep) (req tgt : Bool) : (inepToken n req tgt m).pbuf = m.pbuf := by
  unfold inepToken
  split_ifs <;> rfl

theorem inepTransmit_pbuf (n m : Inep) (txReady : Bool) : (inepTransmit n txReady m).pbuf = m.pbuf := by
  unfold inepTransmit
  split_ifs <;> rfl

theorem inepAck_pbuf (n m : Inep) (ack tgt : Bool) : (inepAck n ack tgt m).pbuf = m.pbuf := by
  unfold inepAck
  split_ifs <;> rfl

/-- Of INEP's four sides the fill side alone stores bytes, and only while `p_ready`. -/
theorem inepTick_pbuf_of_not_ready {c : Cfg} {n : Inep} (i : Inputs) (p : ByteStream) (h : n.ready = false) :
    (inepTick c n i p).pbuf = n.pbuf := by
  show (inepAck _ _ _ _).pbuf = _
  rw [inepAck_pbuf, inepTransmit_pbuf, inepToken_pbuf, inepFill_idle (by rw [h, Bool.and_false])]

theorem inPorts_txFirst_iff (n : Inep) (draws : Nat) :
    (inPorts n draws).txFirst = true ↔ n.txActive = true ∧ n.txIdx = 0 := by
  simp [inPorts]

/-- `tx_last` in exact arithmetic (R15, R212): an empty packet has no last byte. -/
theorem inPorts_txLast_iff (n : Inep) (draws : Nat) :
    (inPorts n draws).txLast = true ↔ n.txActive = true ∧ (n.txIdx : Int) = (n.fillLen : Int) - 1 := by
  simp only [inPorts, Inep.txLast, Inep.atLast, Bool.and_eq_true, beq_iff_eq]
  exact and_congr_right fun _ => by omega

end Sys2Proof.Machine

/-! ## The statements -/

namespace Sys2Proof.Proofs

open Sys2Proof.Machine

/-- Settles O2: a row is among the rows that fire for every value that agrees with its word on its mask. -/
theorem decodeEncodeAgree : Obligations.DecodeEncodeAgree := by
  refine fun i => ⟨decode_encode i, rfl, i.matchWord_and_maskWord, fun w hw hm => ?_⟩
  have hi : i ∈ firing i.vec (bits8 w) := mem_firing_bits8.mpr ⟨rfl, hm⟩
  exact ⟨_, decode_of_firing (Event.wf_iff.mpr hw) (List.ne_nil_of_mem hi), hi⟩

/-- Settles O1: the decoder answers the rows that fire, and a row fires where its masked bits match. -/
theorem decodeIsMaskAndMatch : Obligations.DecodeIsMaskAndMatch := by
  refine fun e => ⟨fun hw => ⟨fun rows h i => ?_, ?_, decode_ne_bitsAboveVector (Event.wf_iff.mpr hw)⟩, fun hw => ?_⟩
  · rw [rows_of_decode_ok h, mem_firing_bits8]
  · rw [decode_eq_noRow_iff (Event.wf_iff.mpr hw), firing_bits8_eq_nil]
  · exact decode_of_not_wf (by simpa [Event.wf] using hw)

/-- Settles O3: the exclusive vectors by their rows in closed form; the groups of the concurrent ones because the words
of two rows of a group disagree where both masks look. -/
theorem exclusiveRowsAreUnique : Obligations.ExclusiveRowsAreUnique := by
  intro e hw hlegal
  have hwf := Event.wf_iff.mpr hw
  refine ⟨fun htf hrx hreq => ?_, fun hv h0 => ?_, fun rows h group hg => ?_⟩
  · have hfires : ∀ i : Instr, i.wf = false → i.vec = e.vec → i.firesOn ((bits8 e.value).take e.vec.width) = false := by
      intro i hi hv
      rw [← hv, i.firesOn_take, Bool.eq_false_iff, ne_eq, i.firesOn_bits8]
      exact hlegal i hi hv
    obtain ⟨i, hi⟩ := List.length_eq_one_iff.mp (length_firing_exclusive htf hrx hfires hreq)
    rw [firing_take] at hi
    exact ⟨i, hi ▸ decode_of_firing hwf (by simp [hi])⟩
  · exact decode_of_firing_nil hwf (by rw [← firing_take, firing_not_requested hv h0])
  · rw [rows_of_decode_ok h]
    refine countP_firing_le_one ?_ _ _
    revert group
    decide

/-- Settles O32: INEP's outputs are those presented from the pre-state, and no row of a tick drives these. -/
theorem transmitOutputs : Obligations.TransmitOutputs := by
  refine fun s hl => ⟨fun hr hf => ⟨_, step_in_next hl hr hf, ?_⟩, fun hr => ⟨_, step_in_reset hl hr, rfl⟩⟩
  obtain ⟨hinep, hout, -⟩ := s.openTick.forIn.inTickDone_inep rfl
  simp only [State.takeIn_out_inp, State.takeIn_regs_inep, hinep, hout]
  exact ⟨rfl, rfl, rfl, fun ha => if_pos ha, inPorts_txFirst_iff _ s.draws, inPorts_txLast_iff _ s.draws, rfl,
    inepTick_pbuf_of_not_ready _ _⟩

/-- Settles O4: the decoder runs on each value. -/
theorem sampleEventsDecode : Obligations.SampleEventsDecode :=
  ⟨rfl, rfl, rfl, rfl, rfl, rfl, rfl, rfl, rfl, rfl, rfl, rfl, rfl, rfl, rfl, rfl, rfl, rfl, rfl, rfl⟩

/-- Settles O6: the rows run and the rows decoded are both those that fire for the value. -/
theorem vectorRunsItsDecodedRows : Obligations.VectorRunsItsDecodedRows := by
  refine fun v s => ⟨s.exists_value v, fun w hw hev => ?_⟩
  have hrun := runVec_of_value hev
  refine ⟨fun rows h => ?_, fun i h => ?_, fun h => ?_⟩
  · rw [hrun, rows_of_decode_ok h]
  · rw [hrun, ← rows_of_decode_ok h, execAll_singleton]
  · rw [hrun, firing_of_decode_noRow h, execAll]

/-- Settles O12: an illegal row is nothing but its fault, and a row with a listed exception is guarded by it. -/
theorem rowsTakeTheirFaults : Obligations.RowsTakeTheirFaults := by
  intro s
  refine ⟨rfl, rfl, rfl, rfl, rfl, rfl, rfl, rfl, fun i hi h => ?_, fun h => ?_, fun i hi h => ?_, fun i hi h => ?_,
    fun i hi h => ?_, fun i hi h => ?_⟩
  · fin_cases hi <;> exact unlessFault_of_cond (by rw [h]; rfl) _ _
  · exact unlessFault_of_cond (beq_iff_eq.mpr h) _ _
  · fin_cases hi <;> exact unlessFault_of_cond h _ _
  · fin_cases hi <;> exact unlessFault_of_cond h _ _
  · fin_cases hi <;> exact unlessFault_of_cond h _ _
  · fin_cases hi <;> exact unlessFault_of_cond h _ _

end Sys2Proof.Proofs
end

section
/-! SUPPORT. Proofs of the statements of 40_skid_buffer.md: what each row of `EV_TF` schedules (R116-R124), the TFIFO's
flags (R112-R114), a whole tick of a standalone TFIFO (R125), and the queue it stands for (R110). -/

namespace Sys2Proof.Machine

/-! ## Flags and effective strobes (R111-R113) -/

theorem Tfifo.empty_iff {t : Tfifo} : t.empty = true ↔ t.nC - t.nRc = 0 := beq_iff_eq

theorem Tfifo.full_iff {depth : Nat} {t : Tfifo} : t.full depth = true ↔ t.nC + t.nS = depth := beq_iff_eq

/-- `w` of R111, its flag spelled out. -/
theorem State.effWrite_eq (s : State) :
    s.effWrite = if s.out.tf.we = true ∧ s.regs.tf.nC + s.regs.tf.nS ≠ s.cfg.bufDepth then 1 else 0 := by
  simp only [State.effWrite, Bool.and_eq_true, Bool.not_eq_true', ← Bool.not_eq_true, Tfifo.full_iff, ne_eq]

/-- `r` of R111, its flag spelled out. -/
theorem State.effRead_eq (s : State) :
    s.effRead = if s.out.tf.re = true ∧ s.regs.tf.nC - s.regs.tf.nRc ≠ 0 then 1 else 0 := by
  simp only [State.effRead, Bool.and_eq_true, Bool.not_eq_true', ← Bool.not_eq_true, Tfifo.empty_iff, ne_eq]

/-! ## What a row of `EV_TF` leaves alone -/

/-- Scheduling the TFIFO's registers is all that such a row does. -/
theorem State.onlyTf_schedTf (f : Tfifo → Tfifo) (s : State) : s.onlyTf (s.schedTf f) :=
  ⟨⟨rfl, rfl, rfl, rfl, rfl, rfl, rfl⟩, rfl, rfl, rfl, rfl, rfl⟩

end Sys2Proof.Machine

/-! ## The statements -/

namespace Sys2Proof.Proofs

open Sys2Proof.Machine

/-- Settles O42: the registers after a tick stand for the queue after it, and the flag and the port show the unread
entries of the queue before it. -/
theorem tfifoRefinesQueue : Obligations.TfifoRefinesQueue := by
  intro depth t i hinv _ _ hfull
  refine ⟨tfTick_queue hinv hfull, Tfifo.queue_unread_eq_nil.symm, fun e rest hunread => ?_⟩
  have hlt : t.nRc < t.nC := by
    rw [← Tfifo.empty_eq_false, Bool.eq_false_iff, ne_eq, ← Tfifo.queue_unread_eq_nil (depth := depth), hunread]
    exact List.cons_ne_nil e rest
  rw [Tfifo.queue_unread_cons hlt] at hunread
  exact (List.cons.inj hunread).1

/-- Settles O34: the step takes the OUT side's part, which is the tick of R125 on the ports read. -/
theorem standaloneTfifoTick : Obligations.StandaloneTfifoTick := by
  intro s hl hc hr hf
  obtain ⟨htf, hbd, htog, -⟩ := s.openTick.outTickDone_tfifo hc
  have hpart : s.outPart = some (.next s.openTick.outTickDone) := by rw [outPart_live hl, hr, hf]; rfl
  obtain ⟨t, hstep, ⟨htf', hbd', htog', -⟩, -⟩ := step_hasOutPart hl hpart
  exact ⟨t, hstep, htf'.trans htf, hbd'.trans hbd, htog'.trans htog⟩

/-- Settles O13: TF_WRITE is a `MemWrite` at `wp` (R37), and the commit counts the effective write (R111). -/
theorem tfifoWriteRows : Obligations.TfifoWriteRows := by
  refine fun s => ⟨⟨_, rfl, s.onlyTf_schedTf _, fun a ha => ?_, fun a ha => ?_, rfl, rfl, rfl, rfl⟩,
    ⟨_, rfl, s.onlyTf_schedTf _, ?_⟩, ⟨_, rfl, s.onlyTf_schedTf _, rfl⟩⟩
  · exact (readMem_write _ _ a _).trans (if_pos ha)
  · exact (readMem_write _ _ a _).trans (if_neg ha)
  · rw [State.schedTf_nxt_tf, State.effWrite_eq]

/-- Settles O14: each row schedules its registers alone, and the read commit counts the effective read (R111). -/
theorem tfifoReadRows : Obligations.TfifoReadRows := by
  refine fun s => ⟨⟨_, rfl, s.onlyTf_schedTf _, rfl⟩, ⟨_, rfl, s.onlyTf_schedTf _, ?_⟩,
    ⟨_, rfl, s.onlyTf_schedTf _, rfl⟩, rfl, rfl⟩
  rw [State.schedTf_nxt_tf, State.effRead_eq]

/-- Settles O27: a tick presents the flags of its pre-state; a depth that is built is not 0 (R296), so the TFIFO is not
full right after reset. -/
theorem tfifoFlags : Obligations.TfifoFlags := by
  refine ⟨fun s => ⟨Tfifo.empty_iff, Tfifo.full_iff, rfl, rfl⟩, fun t n => rfl, fun c hc => ⟨rfl, ?_, rfl, rfl⟩⟩
  exact Bool.eq_false_iff.mpr fun hfull => (Cfg.bufDepth_pos hc).ne (Tfifo.full_iff.mp hfull)

end Sys2Proof.Proofs
end

section
/-! SUPPORT. Proofs of the statements of 41_boundary_detector.md: what each row of `EV_BD` does (R142-R148), and over
the ticks of one packet what the BD emits (R149, R150) and OUTEP commits (R189). -/

namespace Sys2Proof.Machine

/-! ## What a row of `EV_BD` leaves alone -/

/-- Scheduling the BD's registers and driving its outputs is all that such a row does. -/
theorem State.onlyBd_withBd (s : State) (b : Bd) (p : BdPorts) :
    s.onlyBd { s with nxt := { s.nxt with bd := b }, out := { s.out with bd := p } } :=
  ⟨⟨rfl, rfl, rfl, rfl, rfl, rfl, rfl⟩, rfl, rfl, rfl, rfl, rfl, rfl, rfl, rfl⟩

/-! ## A packet's bytes with their marks -/

/-- The bytes of a packet from some byte on, `last` on the last alone; `first` says that nothing of it came before. -/
def marksFrom (first : Bool) : List Byte → List Mark
  | [] => []
  | [b] => [⟨b, first, true⟩]
  | b :: c :: bs => ⟨b, first, false⟩ :: marksFrom false (c :: bs)

/-- The entry that a marked byte is stored as (R86). -/
def Mark.entry (m : Mark) : Entry := packEntry m.first m.last m.data

/-- The bytes numbered from `n` on, with their marks. -/
theorem marksFrom_eq_zipIdx (n : Nat) (bytes : List Byte) :
    marksFrom (n == 0) bytes = (bytes.zipIdx n).map fun (b, j) => ⟨b, j == 0, j + 1 == n + bytes.length⟩ := by
  induction bytes generalizing n with
  | nil => rfl
  | cons b bs ih =>
    cases bs with
    | nil => simp [marksFrom]
    | cons c bs =>
      have htail := ih (n + 1)
      have hlen : n + 1 + (c :: bs).length = n + (b :: c :: bs).length := by simp; omega
      rw [hlen] at htail
      rw [marksFrom, List.zipIdx_cons, List.map_cons, ← htail]
      simp

theorem marked_eq_marksFrom (bytes : List Byte) : marked bytes = marksFrom true bytes := by
  simpa [marked] using (marksFrom_eq_zipIdx 0 bytes).symm

theorem framed_go_eq_marksFrom : ∀ bytes, framed.go bytes = (marksFrom false bytes).map Mark.entry
  | [] => rfl
  | [_] => rfl
  | _ :: c :: bs => congrArg _ (framed_go_eq_marksFrom (c :: bs))

/-- A framed packet is its marked bytes, entry by entry. -/
theorem framed_eq_map_marked (bytes : List Byte) : framed bytes = (marked bytes).map Mark.entry := by
  rw [marked_eq_marksFrom]
  match bytes with
  | [] => rfl
  | [_] => rfl
  | _ :: c :: bs => exact congrArg _ (framed_go_eq_marksFrom (c :: bs))

/-! ## A tick of the BD (R142-R148) -/

/-- The byte the BD holds, if it holds one (R38). -/
def Bd.held (b : Bd) : List Byte := if b.holdValid then [b.holdData] else []

/-- A tick without a verdict emits the held byte where another arrives, and moves on to hold that one: what is emitted
and what is still to come are the held byte, the received one and the rest (R142-R144). -/
theorem State.emitted_append_marksFrom {s : State} (hv : s.verdict = false) (rest : List Byte) :
    s.emitted ++ marksFrom (bdTick s.regs.bd s.inp).isFirstByte ((bdTick s.regs.bd s.inp).held ++ rest) =
      marksFrom s.regs.bd.isFirstByte (s.regs.bd.held ++ (s.byteReceived ++ rest)) := by
  have hv' : (s.inp.rxComplete || s.inp.rxInvalid) = false := hv
  have hcomplete := (Bool.or_eq_false_iff.mp hv').1
  have hinvalid := (Bool.or_eq_false_iff.mp hv').2
  cases hn : s.inp.rxNext <;> cases hh : s.regs.bd.holdValid <;>
    simp [State.emitted, State.byteReceived, bdOut, bdTick, Bd.held, marksFrom, hcomplete, hinvalid, hn, hh]

/-- A verdict emits the held byte as the last (R145-R148). -/
theorem State.emitted_of_verdict {s : State} (hv : s.verdict = true) :
    s.emitted = marksFrom s.regs.bd.isFirstByte s.regs.bd.held := by
  have hv' : (s.inp.rxComplete || s.inp.rxInvalid) = true := hv
  cases hh : s.regs.bd.holdValid <;> simp [State.emitted, bdOut, Bd.held, marksFrom, Bool.or_assoc, hv', hh]

/-! ## The ticks of one packet -/

theorem State.collect_succ {α : Type} (f : State → List α) (k : Nat) (s : State) :
    s.collect f (k + 1) = f s.openTick ++ s.afterStep.collect f k := rfl

theorem State.collect_one {α : Type} (f : State → List α) (s : State) : s.collect f 1 = f s.openTick :=
  List.append_nil _

theorem State.count_succ_eq_zero {p : State → Bool} {k : Nat} {s : State} :
    s.count p (k + 1) = 0 ↔ p s.openTick = false ∧ s.afterStep.count p k = 0 := by
  simp [State.count]

/-- The next `k` ticks of OUTEP bring no verdict, the one after them does, and all of them run. -/
structure State.PacketEnds (k : Nat) (s : State) : Prop where
  outep     : s.cfg.outSide = .outep
  inv       : s.Inv
  clean     : s.outClean (k + 1)
  noVerdict : s.count State.verdict k = 0
  verdict   : (State.after k s).openTick.verdict = true

/-- The BD of OUTEP after a tick without reset and without fault (R142-R148). -/
theorem afterStep_bd_outep {s : State} (hc : s.cfg.outSide = .outep) (hl : s.outLive)
    (hr : s.openTick.inp.rst = false) (hf : s.openTick.outTickFault = none) :
    s.afterStep.regs.bd = bdTick s.regs.bd s.openTick.inp := by
  obtain ⟨-, hbd, -⟩ := afterStep_sameOut_of_next hl hr hf
  obtain ⟨-, hdone, -⟩ := s.openTick.outTickDone_outep hc
  exact hbd.trans hdone

/-- The first tick of a longer packet brings no verdict, and the rest of the packet follows it. -/
theorem State.PacketEnds.tail {k : Nat} {s : State} (h : s.PacketEnds (k + 1)) :
    s.openTick.verdict = false ∧ s.afterStep.PacketEnds k := by
  obtain ⟨hc, hinv, hclean, hnone, hverdict⟩ := h
  obtain ⟨hfirst, hrest⟩ := State.count_succ_eq_zero.mp hnone
  obtain ⟨-, -, hclean'⟩ := State.outClean_succ hclean
  exact ⟨hfirst, afterStep_cfg s ▸ hc, afterStep_inv hinv, hclean', hrest, hverdict⟩

/-- R149, R150: over the ticks of a packet the BD emits the byte it held and those received, in order and marked. -/
theorem State.PacketEnds.collect_emitted {k : Nat} {s : State} (h : s.PacketEnds k) :
    s.collect State.emitted (k + 1) =
      marksFrom s.regs.bd.isFirstByte (s.regs.bd.held ++ s.collect State.byteReceived k) := by
  induction k generalizing s with
  | zero =>
    rw [State.collect_one, State.collect, List.append_nil]
    exact State.emitted_of_verdict h.verdict
  | succ k ih =>
    obtain ⟨hr, hf, -⟩ := State.outClean_succ h.clean
    obtain ⟨hv, htail⟩ := h.tail
    rw [State.collect_succ, ih htail, afterStep_bd_outep h.outep h.clean.1 hr hf]
    exact State.emitted_append_marksFrom hv _

/-- From a packet boundary the BD holds nothing and is at a first byte (R39), so it emits the packet received. -/
theorem State.PacketEnds.collect_emitted_of_boundary {k : Nat} {s : State} (h : s.PacketEnds k)
    (hhold : s.regs.bd.holdValid = false) :
    s.collect State.emitted (k + 1) = marked (s.collect State.byteReceived k) := by
  have hheld : s.regs.bd.held = [] := by simp [Bd.held, hhold]
  rw [h.collect_emitted, h.inv.bd hhold, hheld, List.nil_append, marked_eq_marksFrom]

/-! ## The run of an admitted packet (R180, R182) -/

/-- OUTEP writes what its TFIFO's write port carries. -/
theorem State.writtenNow_eq (s : State) : s.writtenNow = if s.outepTfIn.we then [s.outepTfIn.wd] else [] := by
  unfold State.writtenNow State.outepTfIn
  cases hw : s.okayToReceive && s.bdEmits
  · rfl
  · have he := (Bool.and_eq_true_iff.mp hw).2
    unfold State.bdEmits at he
    simp [bdOut, he]

/-- A tick that drops no byte writes what the BD emits. -/
theorem State.writtenNow_of_admitted {s : State} (h : s.byteDropped = false) :
    s.writtenNow = s.emitted.map Mark.entry := by
  have hdrop : (s.bdEmits && !s.okayToReceive) = false := h
  have hnext : (bdOut s.regs.bd s.inp (Config.freeBdData s.draws)).bdNext = s.bdEmits := rfl
  rw [State.writtenNow_eq, State.emitted, hnext]
  cases he : s.bdEmits
  · simp [State.outepTfIn, he]
  · have hokay : s.okayToReceive = true := by simpa [he] using hdrop
    simp [State.outepTfIn, he, hokay, Mark.entry]

/-- A tick without a verdict adds what it writes to the run. -/
theorem afterStep_run {s : State} (hinv : s.Inv) (hc : s.cfg.outSide = .outep) (hl : s.outLive)
    (hr : s.openTick.inp.rst = false) (hf : s.openTick.outTickFault = none) (hv : s.openTick.verdict = false) :
    s.afterStep.queue.run = s.queue.run ++ s.openTick.writtenNow := by
  have hends : (s.openTick.outepTfIn.wc || s.openTick.outepTfIn.wdis) = false := hv
  rw [afterStep_queue_outep hinv hc hl hr hf, State.writtenNow_eq]
  cases hw : s.openTick.outepTfIn.we <;> simp [Queue.tick, hends, hw]

/-- What a tick commits joins the end of what it leaves unread. -/
theorem Queue.committed_suffix_unread (q : Queue) {i : TfIn} (hrc : i.rc = true) :
    q.committed i <:+ (q.tick i).unread := by
  simp only [Queue.tick, Queue.committed, hrc, if_true]
  exact List.suffix_append _ _

/-- R189: a packet whose bytes are all admitted and whose check is valid is committed behind the run it found. -/
theorem State.PacketEnds.committedNow_eq {k : Nat} {s : State} (h : s.PacketEnds k)
    (hnodrop : s.count State.byteDropped (k + 1) = 0) (hvalid : (State.after k s).openTick.inp.rxComplete = true) :
    (State.after k s).openTick.committedNow = s.queue.run ++ (s.collect State.emitted (k + 1)).map Mark.entry := by
  induction k generalizing s with
  | zero =>
    have hwritten := State.writtenNow_of_admitted (State.count_succ_eq_zero.mp hnodrop).1
    calc s.openTick.committedNow
        = s.queue.run ++ s.openTick.writtenNow := if_pos hvalid
      _ = s.queue.run ++ (s.collect State.emitted 1).map Mark.entry := by
        rw [hwritten, State.collect_one]
  | succ k ih =>
    obtain ⟨hr, hf, -⟩ := State.outClean_succ h.clean
    obtain ⟨hv, htail⟩ := h.tail
    obtain ⟨hfirst, hrest⟩ := State.count_succ_eq_zero.mp hnodrop
    have hrun := afterStep_run h.inv h.outep h.clean.1 hr hf hv
    rw [State.writtenNow_of_admitted hfirst] at hrun
    calc (State.after (k + 1) s).openTick.committedNow
        = s.afterStep.queue.run ++ (s.afterStep.collect State.emitted (k + 1)).map Mark.entry := ih htail hrest hvalid
      _ = s.queue.run ++ (s.collect State.emitted (k + 1 + 1)).map Mark.entry := by
        rw [hrun, State.collect_succ _ (k + 1), List.map_append, List.append_assoc]

/-- What the last tick of a packet commits joins the end of the unread entries. -/
theorem State.PacketEnds.committedNow_suffix_unread {k : Nat} {s : State} (h : s.PacketEnds k) :
    (State.after k s).openTick.committedNow <:+ (State.after (k + 1) s).queue.unread := by
  induction k generalizing s with
  | zero =>
    obtain ⟨hr, hf, -⟩ := State.outClean_succ h.clean
    show s.openTick.committedNow <:+ s.afterStep.queue.unread
    rw [afterStep_queue_outep h.inv h.outep h.clean.1 hr hf, State.committedNow_eq]
    exact Queue.committed_suffix_unread _ rfl
  | succ k ih => exact ih h.tail.2

end Sys2Proof.Machine

/-! ## The statements -/

namespace Sys2Proof.Proofs

open Sys2Proof.Machine

/-- Settles O45: what the BD emits over the packet is the packet marked; every byte of it admitted, the same joins the
empty run and is committed. -/
theorem packetsAreFramed : Obligations.PacketsAreFramed := by
  refine ⟨fun k s hc hinv hhold hclean hnone hverdict =>
    State.PacketEnds.collect_emitted_of_boundary ⟨hc, hinv, hclean, hnone, hverdict⟩ hhold,
    fun k s hc hinv hnS hhold hclean hnone hnodrop hvalid => ?_⟩
  have hpacket : s.PacketEnds k := ⟨hc, hinv, hclean, hnone, by rw [State.verdict, hvalid, Bool.true_or]⟩
  have hrun : s.queue.run = [] := by rw [State.queue, Tfifo.queue, hnS, ringEntries_zero]
  have hcommit : (State.after k s).openTick.committedNow = framed (s.collect State.byteReceived k) := by
    rw [hpacket.committedNow_eq hnodrop hvalid, hrun, hpacket.collect_emitted_of_boundary hhold, framed_eq_map_marked,
      List.nil_append]
  obtain ⟨older, hunread⟩ := hpacket.committedNow_suffix_unread
  exact ⟨hcommit, older, hcommit ▸ hunread.symm⟩

/-- Settles O15: each row schedules the BD's registers and drives its outputs as its rule says, and does no more. -/
theorem boundaryRows : Obligations.BoundaryRows := fun s =>
  ⟨rfl, ⟨_, rfl, s.onlyBd_withBd _ _, rfl, rfl⟩, ⟨_, rfl, s.onlyBd_withBd _ _, rfl, rfl⟩,
    ⟨_, rfl, s.onlyBd_withBd _ _, rfl, rfl⟩, ⟨_, rfl, s.onlyBd_withBd _ _, rfl, rfl⟩,
    ⟨_, rfl, s.onlyBd_withBd _ _, rfl, rfl⟩, ⟨_, rfl, s.onlyBd_withBd _ _, rfl, rfl⟩⟩

end Sys2Proof.Proofs
end

section
/-! SUPPORT. Proofs of the statements of 42_out_endpoint.md: what the rows of OUTEP do (R170-R187), its conditions and
its handshake (R162-R169), a whole tick of it (R197), and over any ticks what its packets leave (R190-R195). -/

namespace Sys2Proof.Machine

/-! ## What a row of OUTEP leaves alone -/

/-- Driving the handshake is all that such a row does. -/
theorem State.onlyHandshake_handshake (ack nak : Bool) (s : State) : s.onlyHandshake (s.handshake ack nak) :=
  ⟨⟨rfl, rfl, rfl, rfl, rfl, rfl, rfl⟩, rfl, rfl, rfl, rfl, rfl, rfl, rfl, rfl, rfl⟩

/-- Driving the TFIFO's ports is all that such a row does. -/
theorem State.onlyTfPorts_driveTf (f : TfPorts → TfPorts) (s : State) : s.onlyTfPorts (s.driveTf f) :=
  ⟨⟨rfl, rfl, rfl, rfl, rfl, rfl, rfl⟩, rfl, rfl, rfl, rfl, rfl⟩

/-- Where its condition does not hold, a guarded row goes on. -/
theorem unlessFault_of_not_cond {c : Bool} (h : c = false) (f : Fault) (s : State) : unlessFault c f s = .next s := by
  rw [h, unlessFault_false]

/-- With the verdict in the tick, a DATA response goes on. -/
theorem State.needsVerdict_of_verdict {s : State} (h : s.inp.rxComplete = true) (t : State) :
    s.needsVerdict t = .next t :=
  unlessFault_of_not_cond (by rw [h, Bool.not_true]) _ _

/-! ## Conditions and the two equations (R162-R169) -/

theorem State.targetingEndpoint_iff {s : State} :
    s.targetingEndpoint = true ↔ s.inp.tokEp.toNat = s.cfg.outEp ∧ s.inp.tokOut = true := by
  rw [State.targetingEndpoint, Bool.and_eq_true, beq_iff_eq]

theorem State.sufficientSpace_iff {s : State} :
    s.sufficientSpace = true ↔ s.cfg.outMps ≤ s.cfg.bufDepth - s.regs.tf.nC := decide_eq_true_iff

theorem State.okayToReceive_iff {s : State} :
    s.okayToReceive = true ↔
      s.targetingEndpoint = true ∧ s.sufficientSpace = true ∧ s.expectedPidMatch = true := by
  rw [State.okayToReceive, Bool.and_eq_true, Bool.and_eq_true, and_assoc]

theorem State.shouldSkip_iff {s : State} :
    s.shouldSkip = true ↔ s.targetingEndpoint = true ∧ s.expectedPidMatch = false := by
  rw [State.shouldSkip, Bool.and_eq_true, Bool.not_eq_true']

theorem State.dataRespReq_iff {s : State} :
    s.dataRespReq = true ↔ s.inp.dataReq = true ∧ s.targetingEndpoint = true := by
  rw [State.dataRespReq, Bool.and_eq_true]

theorem State.pingRespReq_iff {s : State} :
    s.pingRespReq = true ↔ s.inp.pingReq = true ∧ s.targetingEndpoint = true := by
  rw [State.pingRespReq, Bool.and_eq_true]

/-- A duplicate is not admitted (R165, R166). -/
theorem State.okayToReceive_of_shouldSkip {s : State} (h : s.shouldSkip = true) : s.okayToReceive = false := by
  rw [State.okayToReceive, (State.shouldSkip_iff.mp h).2, Bool.and_false]

/-- With the expected PID, a targeted packet is admitted where it has room, and is no duplicate. -/
theorem State.okayToReceive_of_pidMatch {s : State} (ht : s.targetingEndpoint = true)
    (hm : s.expectedPidMatch = true) : s.okayToReceive = s.sufficientSpace ∧ s.shouldSkip = false := by
  simp [State.okayToReceive, State.shouldSkip, ht, hm]

/-- A DATA response is an ACK to a packet admitted or seen already, and a NAK to any other. -/
theorem State.handshake_of_dataRespReq {s : State} (hd : s.dataRespReq = true) (hp : s.pingRespReq = false) :
    s.hsAckEq = (s.okayToReceive || s.shouldSkip) ∧ s.hsNakEq = !(s.okayToReceive || s.shouldSkip) := by
  simp [State.hsAckEq, State.hsNakEq, hd, hp]

/-- A PING response is an ACK where a packet would be admitted, and a NAK elsewhere. -/
theorem State.handshake_of_no_dataRespReq {s : State} (hd : s.dataRespReq = false) :
    s.hsAckEq = (s.pingRespReq && s.okayToReceive) ∧ s.hsNakEq = (s.pingRespReq && !s.okayToReceive) := by
  simp [State.hsAckEq, State.hsNakEq, hd]

/-- Of two requests that do not come together, none is answered by both an ACK and a NAK. -/
theorem State.not_hsAckEq_and_hsNakEq {s : State} (h : s.dataRespReq = true → s.pingRespReq = false) :
    ¬ (s.hsAckEq = true ∧ s.hsNakEq = true) := by
  cases hd : s.dataRespReq
  · obtain ⟨hack, hnak⟩ := State.handshake_of_no_dataRespReq hd
    rw [hack, hnak]
    cases s.okayToReceive <;> simp
  · obtain ⟨hack, hnak⟩ := State.handshake_of_dataRespReq hd (h hd)
    rw [hack, hnak]
    cases (s.okayToReceive || s.shouldSkip) <;> simp

/-! ## A tick of OUTEP (R197) -/

/-- The coming tick is one of OUTEP, no reset tick of it, and takes no fault. -/
structure State.OutepRuns (s : State) : Prop where
  outep   : s.cfg.outSide = .outep
  live    : s.outLive
  noReset : s.openTick.inp.rst = false
  noFault : s.openTick.outTickFault = none

section
variable {s : State} (h : s.OutepRuns)
include h

theorem State.OutepRuns.step_next : step s = .next s.afterStep := by
  have hstep := step_out_next h.live h.noReset h.noFault
  rw [hstep, afterStep_of_next hstep]

theorem State.OutepRuns.tf : s.afterStep.regs.tf = tfTick s.cfg.bufDepth s.regs.tf s.openTick.outepTfIn :=
  afterStep_tf_outep h.outep h.live h.noReset h.noFault

theorem State.OutepRuns.bd : s.afterStep.regs.bd = bdTick s.regs.bd s.openTick.inp :=
  afterStep_bd_outep h.outep h.live h.noReset h.noFault

/-- The outputs are those that OUTEP's five vectors leave. -/
theorem State.OutepRuns.out :
    s.afterStep.out.tf = s.openTick.outepDone.out.tf ∧ s.afterStep.out.bd = s.openTick.outepDone.out.bd ∧
      s.afterStep.out.outp = s.openTick.outepDone.out.outp := by
  obtain ⟨-, -, -, htf, hbd, houtp, -⟩ := afterStep_sameOut_of_next h.live h.noReset h.noFault
  obtain ⟨-, -, -, hdone⟩ := s.openTick.outTickDone_outep h.outep
  rw [htf, hbd, houtp, ← hdone]
  exact ⟨rfl, rfl, rfl⟩

/-- R168, R169: the handshake driven is that of the two equations. -/
theorem State.OutepRuns.handshake :
    s.afterStep.out.outp.hsAck = s.openTick.hsAckEq ∧ s.afterStep.out.outp.hsNak = s.openTick.hsNakEq := by
  obtain ⟨-, -, houtp⟩ := h.out
  rw [houtp]
  exact ⟨rfl, rfl⟩

theorem State.OutepRuns.expectedDataToggle :
    s.afterStep.regs.expectedDataToggle =
      if s.openTick.dataRespReq && s.openTick.okayToReceive then !s.regs.expectedDataToggle
      else s.regs.expectedDataToggle := by
  obtain ⟨-, -, htog, -⟩ := afterStep_sameOut_of_next h.live h.noReset h.noFault
  obtain ⟨-, -, hdone, -⟩ := s.openTick.outTickDone_outep h.outep
  exact htog.trans hdone

/-- R179: the toggle flips with an acceptance. -/
theorem State.OutepRuns.toggle :
    s.afterStep.regs.expectedDataToggle = (s.regs.expectedDataToggle ^^ s.openTick.accepts) := by
  rw [h.expectedDataToggle, State.accepts, h.noReset]
  cases s.openTick.dataRespReq <;> cases s.openTick.okayToReceive <;> simp

/-- No PING is requested with a DATA response (MF3). -/
theorem State.OutepRuns.no_ping (hd : s.openTick.dataRespReq = true) : s.openTick.pingRespReq = false := by
  obtain ⟨-, -, h3, -⟩ := outTickFault_none h.noFault
  have hping : s.openTick.inp.pingReq = false := by
    simpa [State.mf3, -State.openTick_inp, h.outep, (State.dataRespReq_iff.mp hd).1] using h3
  rw [State.pingRespReq, hping, Bool.false_and]

/-- A DATA response is requested with the verdict (MF4). -/
theorem State.OutepRuns.rxComplete_of_dataRespReq (hd : s.openTick.dataRespReq = true) :
    s.openTick.inp.rxComplete = true := by
  obtain ⟨-, -, -, h4, -⟩ := outTickFault_none h.noFault
  obtain ⟨hreq, htgt⟩ := State.dataRespReq_iff.mp hd
  simpa [State.mf4, -State.openTick_inp, h.outep, hreq, htgt] using h4

/-- The answer to a DATA request. -/
theorem State.OutepRuns.data_handshake (hd : s.openTick.dataRespReq = true) :
    s.afterStep.out.outp.hsAck = (s.openTick.okayToReceive || s.openTick.shouldSkip) ∧
      s.afterStep.out.outp.hsNak = !(s.openTick.okayToReceive || s.openTick.shouldSkip) := by
  obtain ⟨hack, hnak⟩ := h.handshake
  rw [hack, hnak]
  exact State.handshake_of_dataRespReq hd (h.no_ping hd)

end

/-- A tick without reset that is none of OUTEP's, or takes a fault, leaves the toggle. -/
theorem afterStep_toggle_of_not_outepRuns {s : State} (hr : s.openTick.inp.rst = false) (h : ¬ s.OutepRuns) :
    s.afterStep.regs.expectedDataToggle = s.regs.expectedDataToggle := by
  by_cases hl : s.outLive
  · cases hf : s.openTick.outTickFault with
    | some f =>
      obtain ⟨-, -, htog, -⟩ := afterStep_sameOut_of_fault hl hr hf
      exact htog
    | none =>
      obtain ⟨-, -, htog, -⟩ := afterStep_sameOut_of_next hl hr hf
      cases hc : s.cfg.outSide
      · exact absurd ⟨hc, hl, hr, hf⟩ h
      · obtain ⟨-, -, hdone, -⟩ := s.openTick.outTickDone_tfifo hc
        exact htog.trans hdone
  · obtain ⟨-, -, htog, -⟩ := sameOut_afterStep_of_not_outLive hl
    exact htog

/-! ## The consumer stream (R184) -/

/-- An entry is its fields (R86). -/
theorem packEntry_fields (e : Entry) : packEntry (entryFirst e) (entryLast e) (entryData e) = e := by
  apply BitVec.eq_of_getLsbD_eq
  intro i hi
  rw [packEntry, BitVec.getLsbD_append, BitVec.getLsbD_append]
  by_cases hdata : i < 8
  · simp [entryData, hdata]
  · obtain rfl | rfl : i = 8 ∨ i = 9 := by omega
    · simp [entryLast]
    · simp [entryFirst]

/-- `s_valid` shows that a committed entry is unread, and the fields shown are those of the entry at the read index. -/
theorem outPorts_stream (c : Cfg) (r : Regs) (i : Inputs) (n : Nat) :
    ((outPorts (tfPorts c r i n)).sValid = true ↔ r.tf.nC - r.tf.nRc ≠ 0) ∧
      ((outPorts (tfPorts c r i n)).sValid = true →
        packEntry (outPorts (tfPorts c r i n)).sFirst (outPorts (tfPorts c r i n)).sLast
          (outPorts (tfPorts c r i n)).sData = readMem r.tf.mem (r.tf.rp c.bufDepth)) := by
  have hvalid : (outPorts (tfPorts c r i n)).sValid = !r.tf.empty := rfl
  rw [hvalid, Bool.not_eq_true']
  refine ⟨by rw [← Bool.not_eq_true, Tfifo.empty_iff], fun he => ?_⟩
  have hread : (tfPorts c r i n).readData = readMem r.tf.mem (r.tf.rp c.bufDepth) := by simp [tfPorts, he]
  rw [← hread]
  exact packEntry_fields _

/-! ## The run (R180-R183) -/

/-- A verdict ends the run; a tick without one adds what is written. -/
theorem tfTick_nS (depth : Nat) (t : Tfifo) (i : TfIn) :
    (tfTick depth t i).nS =
      if i.wc || i.wdis then 0 else t.nS + if t.writes depth i then 1 else 0 := by
  cases hwc : i.wc <;> cases hwd : i.wdis <;> cases hrc : i.rc <;> cases hrd : i.rdis <;>
    simp [tfTick, Tfifo.writes, hwc, hwd, hrc, hrd]

theorem State.length_queue_run (s : State) : s.queue.run.length = s.regs.tf.nS := by
  simp [State.queue, Tfifo.queue, ringEntries]

theorem State.queue_run_of_nS_zero {s : State} (h : s.regs.tf.nS = 0) : s.queue.run = [] := by
  rw [State.queue, Tfifo.queue, h, ringEntries_zero]

/-- Where nothing is written, the TFIFO writes nothing. -/
theorem State.outepTfIn_not_writes {s : State} (h : (s.okayToReceive && s.bdEmits) = false) :
    s.regs.tf.writes s.cfg.bufDepth s.outepTfIn = false := by
  show (s.okayToReceive && s.bdEmits && _) = false
  rw [h, Bool.false_and]

/-- From an empty run, a tick that writes nothing commits nothing. -/
theorem State.committedNow_eq_nil {s : State} (hnS : s.regs.tf.nS = 0)
    (h : (s.okayToReceive && s.bdEmits) = false) : s.committedNow = [] := by
  simp [State.committedNow, State.writtenNow, State.queue_run_of_nS_zero hnS, h]

/-! ## Runs, tick by tick -/

theorem State.after_succ (k : Nat) (s : State) : State.after (k + 1) s = (State.after k s).afterStep := by
  induction k generalizing s with
  | zero => rfl
  | succ k ih => exact ih s.afterStep

theorem after_cfg (k : Nat) (s : State) : (State.after k s).cfg = s.cfg := by
  induction k with
  | zero => rfl
  | succ k ih => rw [State.after_succ, afterStep_cfg, ih]

theorem after_inv (k : Nat) {s : State} (hinv : s.Inv) : (State.after k s).Inv := by
  induction k with
  | zero => exact hinv
  | succ k ih => rw [State.after_succ]; exact afterStep_inv ih

/-- OUTEP runs in every tick of a clean run. -/
theorem State.outClean.outepRuns {k : Nat} {s : State} (hclean : s.outClean k) (hc : s.cfg.outSide = .outep)
    {j : Nat} (hj : j < k) : (State.after j s).OutepRuns := by
  induction j generalizing k s with
  | zero =>
    obtain ⟨k, rfl⟩ := Nat.exists_eq_succ_of_ne_zero (Nat.ne_zero_of_lt hj)
    obtain ⟨hr, hf, -⟩ := State.outClean_succ hclean
    exact ⟨hc, hclean.1, hr, hf⟩
  | succ j ih =>
    obtain ⟨k, rfl⟩ := Nat.exists_eq_succ_of_ne_zero (Nat.ne_zero_of_lt hj)
    obtain ⟨-, -, hrest⟩ := State.outClean_succ hclean
    exact ih hrest (afterStep_cfg s ▸ hc) (Nat.lt_of_succ_lt_succ hj)

/-- No tick counts exactly where none satisfies the condition. -/
theorem State.count_eq_zero_iff {p : State → Bool} {k : Nat} {s : State} :
    s.count p k = 0 ↔ ∀ j < k, p (State.after j s).openTick = false := by
  induction k generalizing s with
  | zero => simp [State.count]
  | succ k ih =>
    rw [State.count_succ_eq_zero, ih, Nat.forall_lt_succ_left]
    exact Iff.rfl

/-- Nothing is collected where no tick shows anything. -/
theorem State.collect_eq_nil {α : Type} {f : State → List α} {k : Nat} {s : State}
    (h : ∀ j < k, f (State.after j s).openTick = []) : s.collect f k = [] := by
  induction k generalizing s with
  | zero => rfl
  | succ k ih =>
    rw [Nat.forall_lt_succ_left] at h
    rw [State.collect_succ, ih h.2, List.append_nil]
    exact h.1

/-- One more of them flips the parity. -/
theorem xor_decide_odd (a : Bool) (n : Nat) :
    (a ^^ decide (n % 2 = 1)) = decide (((if a then 1 else 0) + n) % 2 = 1) := by
  rcases Nat.mod_two_eq_zero_or_one n with hn | hn <;> cases a <;> simp [Nat.add_mod, hn]

/-- R190: each tick's acceptance flips the toggle and the parity of the acceptances counted. -/
theorem State.outClean.toggle {k : Nat} {s : State} (hc : s.cfg.outSide = .outep) (hclean : s.outClean k) :
    (State.after k s).regs.expectedDataToggle =
      (s.regs.expectedDataToggle ^^ decide (s.count State.accepts k % 2 = 1)) := by
  induction k generalizing s with
  | zero => simp [State.after, State.count]
  | succ k ih =>
    obtain ⟨hr, hf, hrest⟩ := State.outClean_succ hclean
    have htick := State.OutepRuns.toggle ⟨hc, hclean.1, hr, hf⟩
    calc (State.after k s.afterStep).regs.expectedDataToggle
        = (s.regs.expectedDataToggle ^^ s.openTick.accepts ^^ decide (s.afterStep.count State.accepts k % 2 = 1)) := by
          rw [ih (afterStep_cfg s ▸ hc) hrest, htick]
      _ = (s.regs.expectedDataToggle ^^ decide (s.count State.accepts (k + 1) % 2 = 1)) := by
          rw [Bool.xor_assoc, xor_decide_odd, State.count]

/-- Over a clean run without an acceptance the toggle stands. -/
theorem State.outClean.toggle_of_no_acceptance {k : Nat} {s : State} (hc : s.cfg.outSide = .outep)
    (hclean : s.outClean k) (h : ∀ j < k, (State.after j s).openTick.accepts = false) :
    (State.after k s).regs.expectedDataToggle = s.regs.expectedDataToggle := by
  rw [hclean.toggle hc, State.count_eq_zero_iff.mpr h]
  exact Bool.xor_false _

/-- A run in whose ticks nothing is admitted never starts a run of entries. -/
theorem State.outClean.nS_of_not_okay {k : Nat} {s : State} (hc : s.cfg.outSide = .outep) (hclean : s.outClean k)
    (hnS : s.regs.tf.nS = 0) (h : ∀ j < k, (State.after j s).openTick.okayToReceive = false) {j : Nat} (hj : j ≤ k) :
    (State.after j s).regs.tf.nS = 0 := by
  induction j with
  | zero => exact hnS
  | succ j ih =>
    have hwrites : (State.after j s).regs.tf.writes (State.after j s).cfg.bufDepth
        (State.after j s).openTick.outepTfIn = false :=
      State.outepTfIn_not_writes (s := (State.after j s).openTick) (by rw [h j hj, Bool.false_and])
    rw [State.after_succ, (hclean.outepRuns hc hj).tf, tfTick_nS, hwrites, ih (Nat.le_of_succ_le hj)]
    simp

/-! ## The bytes of a packet in the endpoint (R193) -/

/-- How many bytes of the packet being received are in the endpoint: those of the run, and the one held. -/
def State.packetBytes (s : State) : Nat := s.regs.tf.nS + s.regs.bd.held.length

theorem length_marksFrom : ∀ (first : Bool) (bytes : List Byte), (marksFrom first bytes).length = bytes.length
  | _, [] => rfl
  | _, [_] => rfl
  | _, _ :: c :: bs => congrArg (· + 1) (length_marksFrom false (c :: bs))

/-- Without a verdict the BD loses no byte: it emits or still holds the one it held and the one received. -/
theorem State.length_emitted_add_held {s : State} (hv : s.verdict = false) :
    s.emitted.length + (bdTick s.regs.bd s.inp).held.length = s.regs.bd.held.length + s.byteReceived.length := by
  simpa [length_marksFrom] using congrArg List.length (State.emitted_append_marksFrom hv [])

theorem State.length_writtenNow_le (s : State) : s.writtenNow.length ≤ s.emitted.length := by
  have hnext : (bdOut s.regs.bd s.inp (Config.freeBdData s.draws)).bdNext = s.bdEmits := rfl
  rw [State.writtenNow, State.emitted, hnext]
  cases s.bdEmits <;> cases s.okayToReceive <;> simp

/-- A tick without a verdict brings no more bytes into the endpoint than it receives. -/
theorem State.OutepRuns.packetBytes_le {s : State} (h : s.OutepRuns) (hinv : s.Inv)
    (hv : s.openTick.verdict = false) :
    s.afterStep.packetBytes ≤ s.packetBytes + s.openTick.byteReceived.length := by
  have hrun := congrArg List.length (afterStep_run hinv h.outep h.live h.noReset h.noFault hv)
  rw [List.length_append, State.length_queue_run, State.length_queue_run] at hrun
  have hheld := State.length_emitted_add_held hv
  rw [State.openTick_regs, ← h.bd] at hheld
  have hwritten := s.openTick.length_writtenNow_le
  unfold State.packetBytes
  omega

/-- Over ticks without a verdict no more bytes of the packet come into the endpoint than are received. -/
theorem State.outClean.packetBytes_le {k : Nat} {s : State} (hc : s.cfg.outSide = .outep) (hinv : s.Inv)
    (hclean : s.outClean k) (hnone : s.count State.verdict k = 0) :
    (State.after k s).packetBytes ≤ s.packetBytes + (s.collect State.byteReceived k).length := by
  induction k generalizing s with
  | zero => exact Nat.le_refl _
  | succ k ih =>
    obtain ⟨hr, hf, hrest⟩ := State.outClean_succ hclean
    obtain ⟨hv, hnone⟩ := State.count_succ_eq_zero.mp hnone
    have hfirst := State.OutepRuns.packetBytes_le ⟨hc, hclean.1, hr, hf⟩ hinv hv
    have hlater := ih (afterStep_cfg s ▸ hc) (afterStep_inv hinv) hrest hnone
    rw [State.collect_succ, List.length_append]
    show (State.after k s.afterStep).packetBytes ≤ _
    omega

/-- A full TFIFO that has room for a packet holds a run of a whole one, besides the byte emitted (R113, R164). -/
theorem State.mps_lt_packetBytes_of_mf7 {s : State} (hc : s.cfg.outSide = .outep) (h : s.mf7 = true) :
    s.cfg.outMps < s.packetBytes := by
  have h' : (s.okayToReceive && s.bdEmits && s.regs.tf.full s.cfg.bufDepth) = true := by
    simpa only [State.mf7, hc] using h
  simp only [Bool.and_eq_true] at h'
  obtain ⟨⟨hokay, hemits⟩, hfull⟩ := h'
  have hspace := State.sufficientSpace_iff.mp (State.okayToReceive_iff.mp hokay).2.1
  have hfull := Tfifo.full_iff.mp hfull
  have hheld : s.regs.bd.held.length = 1 := by simp [Bd.held, (Bool.and_eq_true_iff.mp hemits).1]
  unfold State.packetBytes
  omega

end Sys2Proof.Machine

/-! ## The statements -/

namespace Sys2Proof.Proofs

open Sys2Proof.Machine

/-- Settles O29: a tick drives the handshake of the equations, and MF3 keeps the two requests apart. -/
theorem handshakeEquations : Obligations.HandshakeEquations := by
  intro s hl hc hr hf u
  have h : s.OutepRuns := ⟨hc, hl, hr, hf⟩
  obtain ⟨hack, hnak⟩ := h.handshake
  refine ⟨_, h.step_next, hack, hnak, ?_⟩
  rw [hack, hnak]
  exact State.not_hsAckEq_and_hsNakEq h.no_ping

/-- Settles O30: a tick in which OUTEP runs flips the toggle with an acceptance, and every other one leaves it. -/
theorem toggleUpdate : Obligations.ToggleUpdate := by
  intro s hr
  by_cases h : s.OutepRuns
  · rw [h.toggle, State.accepts, hr]
    obtain ⟨hc, ⟨hb, hnone⟩, -, hf⟩ := h
    cases hd : s.openTick.dataRespReq <;> cases ho : s.openTick.okayToReceive <;> simp [hc, hb, hnone, hf]
  · rw [afterStep_toggle_of_not_outepRuns hr h, if_neg]
    rintro ⟨hb, hnone, hf, hc, -⟩
    exact h ⟨hc, ⟨hb, hnone⟩, hr, hf⟩

/-- Settles O31: the stream is presented from the pre-state, and the rows wire the read side to it; in a reset tick no row
does, and the wiring presented stands. -/
theorem consumerStream : Obligations.ConsumerStream := by
  refine fun s hl hc => ⟨fun hr hf => ?_, fun hr => ?_⟩
  · have h : s.OutepRuns := ⟨hc, hl, hr, hf⟩
    obtain ⟨htf, -, houtp⟩ := h.out
    obtain ⟨hvalid, hentry⟩ := outPorts_stream s.cfg s.regs s.openTick.inp s.draws
    refine ⟨_, h.step_next, ?_⟩
    rw [htf, houtp]
    refine ⟨hvalid, hentry, rfl, rfl, ?_⟩
    show (tfPorts s.cfg s.regs s.openTick.inp s.draws).rdis = false
    simp [tfPorts, hc]
  · have hpart : s.outPart = some (.next s.openTick.resetDone) := by rw [outPart_live hl, hr]; rfl
    obtain ⟨t, hstep, ⟨-, -, -, htf, -, houtp, -⟩, -⟩ := step_hasOutPart hl hpart
    have htf : t.out.tf = tfPorts s.cfg s.regs s.openTick.inp s.draws := htf
    refine ⟨t, hstep, houtp ▸ rfl, ?_⟩
    simp [htf, tfPorts, hc]

/-- Settles O35: the step takes the OUT side's part, which is the tick of R197. -/
theorem outepTick : Obligations.OutepTick := by
  intro s hl hc hr hf r
  have h : s.OutepRuns := ⟨hc, hl, hr, hf⟩
  obtain ⟨hotf, hobd, houtp⟩ := h.out
  refine ⟨_, h.step_next, h.tf, h.bd, h.expectedDataToggle, ?_⟩
  rw [hotf, hobd, houtp]
  exact ⟨rfl, rfl, rfl, rfl, rfl, rfl, rfl⟩

/-- Settles O48, by induction on the ticks of the run. -/
theorem toggleCountsAcceptances : Obligations.ToggleCountsAcceptances :=
  fun _ _ hc hclean => hclean.toggle hc

/-- Settles O46: without a valid check no tick commits, and none accepts (MF4); the failed one discards the run. -/
theorem discardedPacketLeavesNothing : Obligations.DiscardedPacketLeavesNothing := by
  intro k s hc hinv hclean hnone hinvalid
  have hnone := State.count_eq_zero_iff.mp hnone
  have hruns : ∀ j < k + 1, (State.after j s).OutepRuns := fun j hj => hclean.outepRuns hc hj
  refine ⟨?_, ?_, hclean.toggle_of_no_acceptance hc fun j hj => ?_⟩
  · rw [consumerStreamIsFifo (k + 1) s hc hinv hclean,
      State.collect_eq_nil fun j hj => by rw [State.committedNow, hnone j hj]; rfl, List.append_nil]
  · have h := hruns k (Nat.lt_succ_self k)
    have hwdis : (State.after k s).openTick.outepTfIn.wdis = true := hinvalid
    rw [State.after_succ, afterStep_queue_outep (after_inv k hinv) h.outep h.live h.noReset h.noFault]
    simp [Queue.tick, hwdis]
  · have hd : (State.after j s).openTick.dataRespReq = false :=
      Bool.eq_false_iff.mpr fun hd =>
        Bool.false_ne_true ((hnone j hj).symm.trans ((hruns j hj).rxComplete_of_dataRespReq hd))
    rw [State.accepts, hd, Bool.and_false, Bool.false_and]

/-- Settles O47: a duplicate is not admitted, so no run begins and nothing is committed, and a request for it is answered
by the skipping ACK. -/
theorem duplicateIsAckedAndSkipped : Obligations.DuplicateIsAckedAndSkipped := by
  intro k s hc hinv hnS hclean hskip
  have hokay : ∀ j < k, (State.after j s).openTick.okayToReceive = false :=
    fun j hj => State.okayToReceive_of_shouldSkip (hskip j hj)
  have hempty : ∀ j ≤ k, (State.after j s).regs.tf.nS = 0 := fun j hj => hclean.nS_of_not_okay hc hnS hokay hj
  refine ⟨?_, hempty k (Nat.le_refl k), hclean.toggle_of_no_acceptance hc fun j hj => ?_, fun j hj hreq => ?_⟩
  · rw [consumerStreamIsFifo k s hc hinv hclean, State.collect_eq_nil fun j hj =>
      State.committedNow_eq_nil (hempty j (Nat.le_of_lt hj)) (by rw [hokay j hj, Bool.false_and]), List.append_nil]
  · rw [State.accepts, hokay j hj, Bool.and_false]
  · have hd := State.dataRespReq_iff.mpr ⟨hreq, (State.shouldSkip_iff.mp (hskip j hj)).1⟩
    obtain ⟨hack, hnak⟩ := (hclean.outepRuns hc hj).data_handshake hd
    rw [State.after_succ, hack, hnak, hskip j hj, Bool.or_true]
    exact ⟨rfl, rfl⟩

/-- Settles O49: a full TFIFO would need more bytes of the packet in the endpoint than were received. -/
theorem admittedPacketNeverOverruns : Obligations.AdmittedPacketNeverOverruns := by
  intro k s hc hinv hnS hhold hclean hnone hlen
  have hstart : s.packetBytes = 0 := by simp [State.packetBytes, Bd.held, hnS, hhold]
  have hle := hclean.packetBytes_le hc hinv hnone
  have hcfg := after_cfg k s
  refine Bool.eq_false_iff.mpr fun h7 => ?_
  have hlt : (State.after k s).cfg.outMps < (State.after k s).packetBytes :=
    State.mps_lt_packetBytes_of_mf7 (s := (State.after k s).openTick) (by rw [State.openTick_cfg, hcfg, hc]) h7
  rw [hcfg] at hlt
  omega

/-- Settles O50: with two packets of buffer, there is room for one exactly while at most one is committed. -/
theorem doubleBuffering : Obligations.DoubleBuffering := by
  intro s hl hc hdepth hr hf hd hm
  have h : s.OutepRuns := ⟨hc, hl, hr, hf⟩
  obtain ⟨hokay, hskip⟩ := State.okayToReceive_of_pidMatch (State.dataRespReq_iff.mp hd).2 hm
  obtain ⟨hack, hnak⟩ := h.data_handshake hd
  have htog := h.toggle
  rw [State.accepts, hr, hd, hokay] at htog
  rw [hokay, hskip, Bool.or_false] at hack hnak
  have hspace : s.openTick.sufficientSpace = true ↔ s.cfg.outMps ≤ 2 * s.cfg.outMps - s.regs.tf.nC :=
    hdepth ▸ State.sufficientSpace_iff
  have hpos : 0 < s.cfg.outMps := by
    have := hl.1
    simp only [Cfg.outBuilt, Cfg.outLegal, hc, Bool.and_eq_true, decide_eq_true_eq] at this
    omega
  refine ⟨_, h.step_next, fun hle => ?_, fun hlt => ?_⟩
  · have hroom : s.openTick.sufficientSpace = true := hspace.mpr (by omega)
    simp [hack, hnak, htog, hroom]
  · have hroom : s.openTick.sufficientSpace = false := Bool.eq_false_iff.mpr fun hroom => by
      have := hspace.mp hroom
      omega
    simp [hack, hnak, htog, hroom]

/-- Settles O51: with nothing held the BD emits nothing, so the tick writes nothing and commits an empty run. -/
theorem zeroLengthPacketIsInvisible : Obligations.ZeroLengthPacketIsInvisible := by
  intro s hl hc hinv hr hf hhold hnS hcomplete hd hokay
  have h : s.OutepRuns := ⟨hc, hl, hr, hf⟩
  have hemits : s.openTick.bdEmits = false := by rw [State.bdEmits, State.openTick_regs, hhold, Bool.false_and]
  have hwrite : (s.openTick.okayToReceive && s.openTick.bdEmits) = false := by rw [hemits, Bool.and_false]
  obtain ⟨hack, -⟩ := h.data_handshake hd
  obtain ⟨-, hobd, -⟩ := h.out
  refine ⟨_, h.step_next, ?_, ?_, ?_, ?_, ?_, ?_⟩
  · rw [hack, hokay, Bool.true_or]
  · rw [hobd]
    exact hemits
  · rw [h.toggle, State.accepts, hr, hd, hokay]
    exact Bool.xor_true _
  · have hwc : s.openTick.outepTfIn.wc = true := hcomplete
    rw [h.tf, tfTick_nS, hwc]
    rfl
  · rw [h.tf, tfTick_mem, if_neg]
    exact Bool.eq_false_iff.mp (State.outepTfIn_not_writes hwrite)
  · rw [afterStep_conserves_unread hinv hc hl hr hf, State.committedNow_eq_nil (s := s.openTick) hnS hwrite,
      List.append_nil]

/-- Settles O16: with the verdict in the tick, each row drives its handshake, and OUT_DATA_ACCEPT schedules the flip. -/
theorem outDataRows : Obligations.OutDataRows := fun s hv =>
  ⟨⟨_, State.needsVerdict_of_verdict hv _, ⟨rfl, rfl, rfl, rfl, rfl, rfl, rfl⟩, rfl, rfl, rfl, rfl⟩,
    ⟨_, State.needsVerdict_of_verdict hv _, s.onlyHandshake_handshake true false, rfl, rfl⟩,
    ⟨_, State.needsVerdict_of_verdict hv _, s.onlyHandshake_handshake false true, rfl, rfl⟩⟩

/-- Settles O17: each of these rows drives its handshake and does no more. -/
theorem outOtherResponseRows : Obligations.OutOtherResponseRows := by
  refine fun s => ⟨⟨_, rfl, s.onlyHandshake_handshake _ _, rfl, rfl⟩, ⟨_, rfl, s.onlyHandshake_handshake _ _, rfl, rfl⟩,
    ⟨_, rfl, s.onlyHandshake_handshake _ _, rfl, rfl⟩, fun i hi => ?_⟩
  fin_cases hi <;> exact ⟨_, rfl, s.onlyHandshake_handshake _ _, rfl, rfl⟩

/-- Settles O18: each row drives its ports and does no more, OUT_RX_WRITE where it is no overrun. -/
theorem outBufferRows : Obligations.OutBufferRows := by
  refine fun s => ⟨fun hroom => ?_, ⟨_, rfl, s.onlyTfPorts_driveTf _, rfl⟩, ⟨_, rfl, s.onlyTfPorts_driveTf _, rfl⟩,
    ⟨_, rfl, s.onlyTfPorts_driveTf _, rfl⟩⟩
  have hfull : s.regs.tf.full s.cfg.bufDepth = false := Bool.eq_false_iff.mpr fun hf => hroom (Tfifo.full_iff.mp hf)
  exact ⟨_, unlessFault_of_not_cond hfull _ _, s.onlyTfPorts_driveTf _, rfl⟩

/-- Settles O19: each row drives the read strobes and does no more. -/
theorem outStreamRows : Obligations.OutStreamRows := by
  refine fun s => ⟨⟨_, rfl, s.onlyTfPorts_driveTf _, rfl⟩, fun i hi => ?_⟩
  fin_cases hi <;> exact ⟨_, rfl, s.onlyTfPorts_driveTf _, rfl⟩

/-- Settles O28: the conditions, one by one. -/
theorem outConditions : Obligations.OutConditions := fun _ =>
  ⟨State.targetingEndpoint_iff, beq_iff_eq, State.sufficientSpace_iff, State.okayToReceive_iff, State.shouldSkip_iff,
    State.dataRespReq_iff, State.pingRespReq_iff⟩

end Sys2Proof.Proofs
end

section
/-! SUPPORT. Proofs of the statements of 43_in_endpoint.md: what the rows of INEP do (R203-R218, R226, R227), a whole
tick of it (R225), and what becomes of its packet, of the zero-length packet it owes and of its toggle (R219-R224). -/

namespace Sys2Proof.Machine

/-! ## What a row of INEP leaves alone -/

/-- Scheduling INEP's registers and driving its outputs is all that such a row does. -/
theorem State.onlyInep_write (n : Inep) (o : InPorts) (s : State) :
    s.onlyInep { s with nxt := { s.nxt with inep := n }, out := { s.out with inp := o } } :=
  ⟨⟨rfl, rfl, rfl, rfl, rfl, rfl, rfl⟩, rfl, rfl, rfl, rfl, rfl, rfl, rfl, rfl⟩

/-- With no pending offer retracted, a fill row goes on. -/
theorem State.keepsOffer_of_not_mf8In {s : State} (h : s.mf8In = false) (t : State) : s.keepsOffer t = .next t :=
  unlessFault_of_not_cond h _ _

/-- With no host ACK in the tick, a token row goes on. -/
theorem State.noAck_of_no_ack {s : State} (h : s.inp.hsInAck = false) (t : State) : s.noAck t = .next t :=
  unlessFault_of_not_cond h _ _

/-- With no IN request in the tick, an ACK row goes on. -/
theorem State.noReq_of_no_req {s : State} (h : s.inp.inReq = false) (t : State) : s.noReq t = .next t :=
  unlessFault_of_not_cond h _ _

/-! ## The packet (R200) -/

/-- A byte stored at `fill_len` is the packet's last (R203-R206). -/
theorem Inep.packet_of_stored {n m : Inep} {b : Byte} (hbuf : m.pbuf = Cells.write n.pbuf n.fillLen b)
    (hlen : m.fillLen = n.fillLen + 1) : m.packet = n.packet ++ [b] := by
  have hkept : (List.range n.fillLen).map (readPbuf m.pbuf) = n.packet := by
    refine List.map_congr_left fun a ha => ?_
    rw [hbuf, readPbuf_write, if_neg (List.mem_range.mp ha).ne]
  rw [Inep.packet, hlen, List.range_succ, List.map_append, hkept, List.map_singleton, hbuf, readPbuf_write, if_pos rfl]

theorem Inep.packet_eq_nil {n : Inep} (h : n.fillLen = 0) : n.packet = [] := by
  rw [Inep.packet, h, List.range_zero, List.map_nil]

/-- What is unsent begins with the byte presented (R212). -/
theorem Inep.packet_drop {n : Inep} {k : Nat} (h : k < n.fillLen) :
    n.packet.drop k = readPbuf n.pbuf k :: n.packet.drop (k + 1) := by
  have hlen : k < n.packet.length := by simpa [Inep.packet] using h
  rw [List.drop_eq_getElem_cons hlen]
  simp [Inep.packet]

theorem Inep.unsent_of_idle {n : Inep} (h : n.txActive = false) : n.unsent = [] := by
  simp [Inep.unsent, h]

/-! ## The sides of INEP (R225) -/

/-- The fill side adds the byte transferred to the packet (R203-R207). -/
theorem inepFill_packet (c : Cfg) (n : Inep) (p : ByteStream) :
    (inepFill c n p).packet = n.packet ++ if p.valid && n.ready then [p.data] else [] := by
  unfold inepFill
  split_ifs with hx hfull
  · exact Inep.packet_of_stored rfl (beq_iff_eq.mp hfull).symm
  · exact Inep.packet_of_stored rfl rfl
  · exact Inep.packet_of_stored rfl rfl
  · exact (List.append_nil _).symm

/-- The fill side owes a zero-length packet for a last byte that fills the packet (R206). -/
theorem inepFill_zlpPending (c : Cfg) (n : Inep) (p : ByteStream) :
    (inepFill c n p).zlpPending = true ↔
      n.zlpPending = true ∨ (p.valid && n.ready) = true ∧ p.last = true ∧ n.fillLen + 1 = c.inMps := by
  unfold inepFill
  split_ifs with hx hfull hlast
  · obtain ⟨-, hz⟩ := Inep.ready_iff.mp (Bool.and_eq_true_iff.mp hx).2
    simp [hx, hz, beq_iff_eq.mp hfull]
  · simp [mt beq_iff_eq.mpr hfull]
  · simp [hlast]
  · simp [hx]

theorem inepFill_inToggle (c : Cfg) (n : Inep) (p : ByteStream) : (inepFill c n p).inToggle = n.inToggle := by
  unfold inepFill
  dsimp only
  split_ifs <;> rfl

theorem inepFill_txActive (c : Cfg) (n : Inep) (p : ByteStream) : (inepFill c n p).txActive = n.txActive := by
  unfold inepFill
  dsimp only
  split_ifs <;> rfl

theorem inepAck_txActive (n m : Inep) (ack tgt : Bool) : (inepAck n ack tgt m).txActive = m.txActive := by
  unfold inepAck
  split_ifs <;> rfl

/-- Token and transmit side write the transmission's registers alone (R208-R215). -/
theorem inepTransmit_inepToken_writes (n m : Inep) (req tgt txReady : Bool) :
    ∃ a x w, inepTransmit n txReady (inepToken n req tgt m) =
      { m with txActive := a, txIdx := x, awaitingAck := w } := by
  unfold inepTransmit inepToken
  split_ifs <;> exact ⟨_, _, _, rfl⟩

/-- An ACK that finds INEP waiting for it is honoured (R216, R217). -/
def Inep.honours (n : Inep) (ack tgt : Bool) : Bool := ack && tgt && n.awaitingAck

/-- R224: the toggle flips with an honoured ACK. -/
theorem inepAck_inToggle {n m : Inep} (ack tgt : Bool) (hm : m.inToggle = n.inToggle) :
    (inepAck n ack tgt m).inToggle = (n.inToggle ^^ n.honours ack tgt) := by
  unfold inepAck Inep.honours
  cases ack && tgt && n.awaitingAck
  · exact hm.trans (Bool.xor_false _).symm
  · cases n.staged <;> exact (Bool.xor_true _).symm

/-- An ACK honoured while a packet is staged empties it (R216). -/
theorem inepAck_packet (n m : Inep) (ack tgt : Bool) :
    (inepAck n ack tgt m).packet = if n.honours ack tgt && n.staged then [] else m.packet := by
  unfold inepAck Inep.honours
  cases ack && tgt && n.awaitingAck
  · rfl
  · cases n.staged
    · rfl
    · exact Inep.packet_eq_nil rfl

/-- An ACK honoured while none is staged is that of the zero-length packet owed (R217). -/
theorem inepAck_zlpPending (n m : Inep) (ack tgt : Bool) :
    (inepAck n ack tgt m).zlpPending = (m.zlpPending && !(n.honours ack tgt && !n.staged)) := by
  unfold inepAck Inep.honours
  cases ack && tgt && n.awaitingAck
  · exact (Bool.and_true _).symm
  · cases n.staged
    · exact (Bool.and_false _).symm
    · exact (Bool.and_true _).symm

/-! ## A tick of INEP (R225) -/

/-- But for the transmission's registers and the offer remembered, a tick is its fill side and then its ACK side. -/
theorem inepTick_fill_then_ack (c : Cfg) (n : Inep) (i : Inputs) (p : ByteStream) :
    ∃ a x w o, inepTick c n i p =
      { inepAck n i.hsInAck (i.tokIn && i.tokEp.toNat == c.inEp)
          { inepFill c n p with txActive := a, txIdx := x, awaitingAck := w } with prevOffer := o } := by
  obtain ⟨a, x, w, hsend⟩ := inepTransmit_inepToken_writes n (inepFill c n p) i.inReq
    (i.tokIn && i.tokEp.toNat == c.inEp) i.txReady
  exact ⟨a, x, w, _, by rw [inepTick, hsend]⟩

theorem inepTick_inToggle (c : Cfg) (n : Inep) (i : Inputs) (p : ByteStream) :
    (inepTick c n i p).inToggle = (n.inToggle ^^ n.honours i.hsInAck (i.tokIn && i.tokEp.toNat == c.inEp)) := by
  obtain ⟨a, x, w, o, h⟩ := inepTick_fill_then_ack c n i p
  rw [h]
  exact inepAck_inToggle _ _ (inepFill_inToggle c n p)

theorem inepTick_packet (c : Cfg) (n : Inep) (i : Inputs) (p : ByteStream) :
    (inepTick c n i p).packet =
      if n.honours i.hsInAck (i.tokIn && i.tokEp.toNat == c.inEp) && n.staged then [] else (inepFill c n p).packet := by
  obtain ⟨a, x, w, o, h⟩ := inepTick_fill_then_ack c n i p
  rw [h]
  exact inepAck_packet n _ _ _

theorem inepTick_zlpPending (c : Cfg) (n : Inep) (i : Inputs) (p : ByteStream) :
    (inepTick c n i p).zlpPending =
      ((inepFill c n p).zlpPending &&
        !(n.honours i.hsInAck (i.tokIn && i.tokEp.toNat == c.inEp) && !n.staged)) := by
  obtain ⟨a, x, w, o, h⟩ := inepTick_fill_then_ack c n i p
  rw [h]
  exact inepAck_zlpPending n _ _ _

/-- A targeted token while a packet is staged starts its transmission and changes nothing else (R208, R219). -/
theorem inepTick_of_token {c : Cfg} {n : Inep} {i : Inputs} (p : ByteStream) (hs : n.staged = true)
    (hq : (i.inReq && (i.tokIn && i.tokEp.toNat == c.inEp)) = true) (ha : n.txActive = false)
    (hk : i.hsInAck = false) :
    ∃ o, inepTick c n i p = { n with txActive := true, txIdx := 0, awaitingAck := false, prevOffer := o } := by
  have hfill : inepFill c n p = n := inepFill_idle (by simp [Inep.ready, hs])
  have htoken : ∀ m, inepToken n i.inReq (i.tokIn && i.tokEp.toNat == c.inEp) m =
      { m with txActive := true, txIdx := 0, awaitingAck := false } := fun m => by simp [inepToken, hq, hs]
  exact ⟨_, by rw [inepTick, hfill, htoken, inepTransmit_idle ha, inepAck_noAck hk]⟩

/-- Without an answered token INEP starts no transmission. -/
theorem inepTick_stays_idle {c : Cfg} {n : Inep} {i : Inputs} (p : ByteStream) (ha : n.txActive = false)
    (hq : (i.inReq && (i.tokIn && i.tokEp.toNat == c.inEp)) = false) : (inepTick c n i p).txActive = false := by
  show (inepAck _ _ _ _).txActive = false
  rw [inepToken_untargeted hq, inepTransmit_idle ha, inepAck_txActive, inepFill_txActive, ha]

/-- While INEP transmits, a tick without an answered token is its transmit side alone. -/
theorem inepTick_of_sending {c : Cfg} {n : Inep} {i : Inputs} (p : ByteStream) (hinv : n.Inv c.inMps)
    (ha : n.txActive = true) (hq : (i.inReq && (i.tokIn && i.tokEp.toNat == c.inEp)) = false) :
    ∃ o, inepTick c n i p = { inepTransmit n i.txReady n with prevOffer := o } := by
  have hfill : inepFill c n p = n := inepFill_idle (by simp [Inep.ready, (hinv.sending ha).1])
  exact ⟨_, by rw [inepTick, hfill, inepToken_untargeted hq, inepAck_notAwaited (hinv.sending_ack ha)]⟩

/-- The transmit side moves on past the byte taken; past the last one nothing is unsent (R213-R215). -/
theorem inepTransmit_unsent {mps : Nat} {n : Inep} {txReady : Bool} (hinv : n.Inv mps) (ha : n.txActive = true) :
    (if n.txActive && txReady then [readPbuf n.pbuf n.txIdx] else []) ++ (inepTransmit n txReady n).unsent =
      n.unsent := by
  have hcons := Inep.packet_drop (hinv.sending ha).2
  unfold inepTransmit
  split_ifs with hx hlast
  · have hend : n.packet.drop (n.txIdx + 1) = [] := by
      rw [beq_iff_eq.mp hlast]
      simp [Inep.packet]
    rw [Inep.unsent_of_idle rfl, Inep.unsent, if_pos ha, hcons, hend, List.append_nil]
  · simp only [Inep.unsent, ha, if_true, hcons]
    rfl
  · exact List.nil_append _

/-- The coming tick is one of INEP, by itself or behind an MBIN, no reset tick of it, and takes no fault. -/
structure State.InepRuns (s : State) : Prop where
  live    : s.inLive
  noReset : s.openTick.inp.inRst = false
  noFault : s.openTick.inTickFault = none

section
variable {s : State} (h : s.InepRuns)
include h

theorem State.InepRuns.step_next : step s = .next s.afterStep := by
  have hstep := step_in_next h.live h.noReset h.noFault
  rw [hstep, afterStep_of_next hstep]

/-- The registers are those that R225 gives on the producer port. -/
theorem State.InepRuns.inep :
    s.afterStep.regs.inep = inepTick s.cfg s.regs.inep s.openTick.inp s.openTick.inepIn := by
  obtain ⟨hinep, -⟩ := afterStep_sameIn_of_next h.live h.noReset h.noFault
  obtain ⟨hdone, -⟩ := s.openTick.forIn.inTickDone_inep rfl
  exact hinep.trans hdone

/-- The outputs are those that INEP's four vectors leave. -/
theorem State.InepRuns.out : s.afterStep.out.inp = s.openTick.inepDone.out.inp := by
  obtain ⟨-, -, hinp, -⟩ := afterStep_sameIn_of_next h.live h.noReset h.noFault
  obtain ⟨-, hdone, -⟩ := s.openTick.forIn.inTickDone_inep rfl
  exact hinp.trans hdone

/-- No answered token comes while INEP transmits (MF9). -/
theorem State.InepRuns.not_sending_of_token (hq : s.openTick.tokenAnswered = true) :
    s.regs.inep.txActive = false := by
  obtain ⟨-, h9, -⟩ := inTickFault_none h.noFault
  have h9 : (s.openTick.tokenAnswered && s.regs.inep.txActive) = false := h9
  rwa [hq, Bool.true_and] at h9

/-- No host ACK comes with a request (MF11). -/
theorem State.InepRuns.no_ack_of_token (hq : s.openTick.tokenAnswered = true) :
    s.openTick.inp.hsInAck = false := by
  obtain ⟨h11, -, -⟩ := inTickFault_none h.noFault
  rwa [State.mf11, (Bool.and_eq_true_iff.mp hq).1, Bool.true_and] at h11

/-- Outside a reset tick an honoured ACK is one that finds INEP waiting (R216, R217). -/
theorem State.InepRuns.honours :
    s.regs.inep.honours s.openTick.inp.hsInAck s.openTick.targetingIn = s.openTick.honoursAck := by
  rw [State.honoursAck, h.noReset, Bool.not_false, Bool.true_and]
  exact Bool.and_assoc _ _ _

theorem State.InepRuns.honoursAck_iff :
    s.openTick.honoursAck = true ↔ s.openTick.inp.hsInAck = true ∧ s.openTick.ackMatch = true := by
  rw [State.honoursAck, h.noReset, Bool.not_false, Bool.true_and, Bool.and_eq_true]

/-- R224: the toggle flips with an honoured ACK. -/
theorem State.InepRuns.inToggle :
    s.afterStep.regs.inep.inToggle = (s.regs.inep.inToggle ^^ s.openTick.honoursAck) := by
  rw [h.inep, ← h.honours]
  exact inepTick_inToggle _ _ _ _

/-- Only an ACK awaited is honoured. -/
theorem State.InepRuns.awaiting_of_honoursAck (hk : s.openTick.honoursAck = true) : s.regs.inep.awaitingAck = true :=
  (Bool.and_eq_true_iff.mp (h.honoursAck_iff.mp hk).2).2

/-- An ACK honoured with no packet staged is that of the zero-length packet owed, and nothing is being filled (R217). -/
theorem State.InepRuns.packet_of_zlp_honoursAck (hinv : s.Inv) (hk : s.openTick.honoursAck = true)
    (hs : s.regs.inep.staged = false) : s.regs.inep.packet = [] := by
  have hinv := hinv.inep h.live.1
  exact Inep.packet_eq_nil (hinv.owed_zlp (hinv.zlp_sent (h.awaiting_of_honoursAck hk) hs) hs)

/-- While an ACK is honoured no byte is transferred. -/
theorem State.InepRuns.xferP_of_honoursAck (hinv : s.Inv) (hk : s.openTick.honoursAck = true) :
    s.openTick.xferP = false := by
  refine Bool.eq_false_iff.mpr fun hx => ?_
  have hw := (hinv.inep h.live.1).not_awaiting (Bool.and_eq_true_iff.mp hx).2
  exact Bool.false_ne_true (hw.symm.trans (h.awaiting_of_honoursAck hk))

/-- The packet grows by the byte transferred, or is emptied by its ACK. -/
theorem State.InepRuns.packet (hinv : s.Inv) :
    s.afterStep.regs.inep.packet =
      if s.openTick.honoursAck then []
      else s.regs.inep.packet ++ (if s.openTick.xferP then [s.openTick.inepIn.data] else []) := by
  have htick : s.afterStep.regs.inep.packet =
      if s.openTick.honoursAck && s.regs.inep.staged then []
      else s.regs.inep.packet ++ (if s.openTick.xferP then [s.openTick.inepIn.data] else []) := by
    rw [h.inep, ← h.honours]
    exact inepFill_packet s.cfg s.regs.inep s.openTick.inepIn ▸ inepTick_packet _ _ _ _
  rw [htick]
  cases hk : s.openTick.honoursAck
  · rfl
  · cases hs : s.regs.inep.staged
    · rw [h.xferP_of_honoursAck hinv hk, h.packet_of_zlp_honoursAck hinv hk hs]
      rfl
    · rfl

/-- A zero-length packet is owed from the byte that calls for it (R206) to its own ACK (R217). -/
theorem State.InepRuns.zlpPending_iff (hinv : s.Inv) :
    s.afterStep.regs.inep.zlpPending = true ↔
      (s.regs.inep.zlpPending = true ∧ ¬ (s.openTick.honoursAck = true ∧ s.regs.inep.staged = false)) ∨
        (s.openTick.xferP = true ∧ s.openTick.inepIn.last = true ∧ s.regs.inep.fillLen + 1 = s.cfg.inMps) := by
  have htick : s.afterStep.regs.inep.zlpPending =
      ((inepFill s.cfg s.regs.inep s.openTick.inepIn).zlpPending &&
        !(s.openTick.honoursAck && !s.regs.inep.staged)) := by
    rw [h.inep, ← h.honours]
    exact inepTick_zlpPending _ _ _ _
  have hfill : (inepFill s.cfg s.regs.inep s.openTick.inepIn).zlpPending = true ↔ s.regs.inep.zlpPending = true ∨
      s.openTick.xferP = true ∧ s.openTick.inepIn.last = true ∧ s.regs.inep.fillLen + 1 = s.cfg.inMps :=
    inepFill_zlpPending _ _ _
  rw [htick, Bool.and_eq_true, hfill]
  cases hk : s.openTick.honoursAck
  · simp
  · simp [h.xferP_of_honoursAck hinv hk]

/-- What the transmitter takes and what is then unsent are what was unsent, while no token is answered. -/
theorem State.InepRuns.unsent (hinv : s.Inv) (hq : s.openTick.tokenAnswered = false) :
    s.openTick.sentNow ++ s.afterStep.regs.inep.unsent = s.regs.inep.unsent := by
  rw [h.inep]
  cases ha : s.regs.inep.txActive
  · have hsent : s.openTick.sentNow = [] := by simp [State.sentNow, presented, inPorts, ha]
    rw [hsent, Inep.unsent_of_idle ha, Inep.unsent_of_idle (inepTick_stays_idle (c := s.cfg) _ ha hq)]
    rfl
  · have hinv := hinv.inep h.live.1
    obtain ⟨o, hsend⟩ := inepTick_of_sending s.openTick.inepIn hinv ha hq
    have hsent : s.openTick.sentNow = if s.regs.inep.txActive && s.openTick.inp.txReady then
        [readPbuf s.regs.inep.pbuf s.regs.inep.txIdx] else [] := by
      simp [State.sentNow, presented, inPorts, ha]
    rw [hsend, hsent]
    exact inepTransmit_unsent hinv ha

end

/-! ## Runs -/

/-- A recorded fault of the IN side is there at the end of any run (R271). -/
theorem after_inFault {f : Fault} (k : Nat) {s : State} (h : s.inFault = some f) :
    (State.after k s).inFault = some f := by
  induction k generalizing s with
  | zero => exact h
  | succ k ih =>
    obtain ⟨-, -, -, -, hif⟩ := sameIn_afterStep_of_not_inLive (not_inLive_of_inFault h)
    exact ih (hif.trans h)

/-- INEP runs in the first tick of a clean run, and the rest is a clean run. -/
theorem State.inClean_succ {k : Nat} {s : State} (h : s.inClean (k + 1)) : s.InepRuns ∧ s.afterStep.inClean k := by
  obtain ⟨hl, hcount, hend⟩ := h
  obtain ⟨hr, hrest⟩ := State.count_succ_eq_zero.mp hcount
  have hf : s.openTick.inTickFault = none := by
    cases hf : s.openTick.inTickFault with
    | none => rfl
    | some f =>
      obtain ⟨-, -, -, -, hif⟩ := afterStep_sameIn_of_fault hl hr hf
      exact nomatch (after_inFault k hif).symm.trans hend
  obtain ⟨-, -, -, -, hif⟩ := afterStep_sameIn_of_next hl hr hf
  exact ⟨⟨hl, hr, hf⟩, ⟨afterStep_cfg s ▸ hl.1, hif.trans hl.2⟩, hrest, hend⟩

/-- R224: each tick's honoured ACK flips the toggle and the parity of the ACKs counted. -/
theorem State.inClean.inToggle {k : Nat} {s : State} (hclean : s.inClean k) :
    (State.after k s).regs.inep.inToggle =
      (s.regs.inep.inToggle ^^ decide (s.count State.honoursAck k % 2 = 1)) := by
  induction k generalizing s with
  | zero => simp [State.after, State.count]
  | succ k ih =>
    obtain ⟨hruns, hrest⟩ := State.inClean_succ hclean
    calc (State.after k s.afterStep).regs.inep.inToggle
        = (s.regs.inep.inToggle ^^ s.openTick.honoursAck ^^
            decide (s.afterStep.count State.honoursAck k % 2 = 1)) := by rw [ih hrest, hruns.inToggle]
      _ = (s.regs.inep.inToggle ^^ decide (s.count State.honoursAck (k + 1) % 2 = 1)) := by
          rw [Bool.xor_assoc, xor_decide_odd, State.count]

end Sys2Proof.Machine

/-! ## The statements -/

namespace Sys2Proof.Proofs

open Sys2Proof.Machine

/-- Settles O36: the step takes the IN side's part, which is the tick of R225 on the ports read. -/
theorem inepTick : Obligations.InepTick := by
  intro s hl hc hr hf i tgt
  have h : s.InepRuns := ⟨hl, hr, hf⟩
  have hport : s.openTick.inepIn = ⟨i.pValid, BitVec.ofNat 8 i.pData, i.pFirst, i.pLast⟩ := by
    simp only [State.inepIn, State.openTick_cfg, hc]
    rfl
  have hinep := h.inep
  rw [hport] at hinep
  obtain ⟨-, hmb, -⟩ := afterStep_sameIn_of_next hl hr hf
  refine ⟨_, h.step_next, hinep, ?_, ?_, ?_, hmb.trans (s.openTick.forIn.inTickDone_noMb hc)⟩
  · rw [hinep]
    simp [Machine.inepTick, pendingOffer, Inep.ready]
  · rw [h.out]
    rfl
  · rw [h.out]
    rfl

/-- Settles O55: the fill side adds the byte transferred, and the ACK side empties the packet; an ACK of the zero-length
packet finds it empty. -/
theorem packetIsFilledInOrder : Obligations.PacketIsFilledInOrder := by
  intro s hl hinv hr hf u
  have h : s.InepRuns := ⟨hl, hr, hf⟩
  refine ⟨_, h.step_next, ?_⟩
  simp only [h.packet hinv, h.honoursAck_iff]
  rfl

/-- Settles O56: a token starts the packet anew; then each tick conserves what is unsent, so any ticks do. -/
theorem transmissionSendsThePacket : Obligations.TransmissionSendsThePacket := by
  refine ⟨fun s hl hinv hr hf hq hs => ?_, fun k s hinv hclean hnone => ?_⟩
  · have h : s.InepRuns := ⟨hl, hr, hf⟩
    obtain ⟨o, htoken⟩ := inepTick_of_token (c := s.cfg) s.openTick.inepIn hs hq (h.not_sending_of_token hq)
      (h.no_ack_of_token hq)
    refine ⟨_, h.step_next, ?_⟩
    rw [h.inep, htoken]
    exact ⟨rfl, rfl, rfl, rfl⟩
  · have hconserved := collect_conserves (taken := State.sentNow) (given := fun _ => [])
      (stock := fun s => s.regs.inep.unsent)
      (good := fun k s => s.Inv ∧ s.inClean k ∧ s.count State.tokenAnswered k = 0) ?_ ?_ k s ⟨hinv, hclean, hnone⟩
    · rwa [State.collect_eq_nil (f := fun _ => []) fun _ _ => rfl, List.append_nil] at hconserved
    · rintro k s ⟨hinv, hclean, hnone⟩
      exact ⟨afterStep_inv hinv, (State.inClean_succ hclean).2, (State.count_succ_eq_zero.mp hnone).2⟩
    · rintro k s ⟨hinv, hclean, hnone⟩
      rw [List.append_nil]
      exact (State.inClean_succ hclean).1.unsent hinv (State.count_succ_eq_zero.mp hnone).1

/-- Settles O57: the fill side owes the zero-length packet, and the ACK side settles it. -/
theorem zlpIsOwedAfterFullLastPacket : Obligations.ZlpIsOwedAfterFullLastPacket := by
  intro s hl hinv hr hf u
  have h : s.InepRuns := ⟨hl, hr, hf⟩
  refine ⟨_, h.step_next, ?_⟩
  rw [h.zlpPending_iff hinv, h.honoursAck_iff, and_assoc]

/-- Settles O58, by induction on the ticks of the run. -/
theorem inToggleCountsAcks : Obligations.InToggleCountsAcks :=
  fun _ _ hclean => hclean.inToggle

/-- Settles O20: with no offer retracted each row stores its byte with one write to `pbuf` (R62). -/
theorem inFillRows : Obligations.InFillRows := by
  refine fun s h8 => ⟨fun i hi => ?_, State.keepsOffer_of_not_mf8In h8 s⟩
  fin_cases hi
  all_goals
    refine ⟨_, State.keepsOffer_of_not_mf8In h8 _, s.onlyInep_write _ _, rfl,
      fun a ha => (readPbuf_write _ _ a _).trans (if_pos ha), fun a ha => (readPbuf_write _ _ a _).trans (if_neg ha),
      rfl, ?_, ?_, rfl, rfl, rfl, rfl, rfl⟩
    · simp [State.fillByte]
    · simp [State.fillByte, Config.generateZlps]

/-- Settles O21: with no host ACK each row goes on to what it schedules and drives. -/
theorem inTokenRows : Obligations.InTokenRows := by
  refine fun s => ⟨fun hk => ⟨?_, ?_, ?_, ?_⟩, ⟨_, rfl, s.onlyInep_write _ _, rfl, rfl⟩⟩
  · exact ⟨_, State.noAck_of_no_ack hk _, s.onlyInep_write _ _, rfl, rfl⟩
  · exact ⟨_, State.noAck_of_no_ack hk _, s.onlyInep_write _ _, rfl, rfl⟩
  · exact ⟨_, State.noAck_of_no_ack hk _, s.onlyInep_write _ _, rfl, rfl⟩
  · exact State.noAck_of_no_ack hk s

/-- Settles O22: the transmit rows go on always, the ACK rows with no IN request. -/
theorem inTransmitAndAckRows : Obligations.InTransmitAndAckRows := fun s =>
  ⟨⟨_, rfl, s.onlyInep_write _ _, rfl, rfl⟩, ⟨_, rfl, s.onlyInep_write _ _, rfl, rfl⟩, rfl,
    ⟨_, rfl, s.onlyInep_write _ _, rfl, rfl⟩, fun hq =>
    ⟨⟨_, State.noReq_of_no_req hq _, s.onlyInep_write _ _, rfl, rfl⟩,
      ⟨_, State.noReq_of_no_req hq _, s.onlyInep_write _ _, rfl, rfl⟩, State.noReq_of_no_req hq s⟩⟩

end Sys2Proof.Proofs
end

section
/-! SUPPORT. Proofs of the statements of 44_word_adapter.md: what the rows of MBIN do (R243-R248), its outputs and a whole
tick of it (R241, R242, R253), and over any ticks the bytes it takes and hands on (R250, R251). -/

namespace Sys2Proof.Machine

/-! ## What a row of MBIN leaves alone -/

/-- Scheduling MBIN's registers is all that a row of `EV_MB` does. -/
theorem State.onlyMb_schedMb (f : Mbin → Mbin) (s : State) : s.onlyMb (s.schedMb f) :=
  ⟨⟨rfl, rfl, rfl, rfl, rfl, rfl, rfl⟩, rfl, rfl, rfl, rfl, rfl⟩

/-- With no pending word retracted, MB_IDLE_WAIT and MB_HOLD go on (R243, R245). -/
theorem State.keepsWord_of_not_mf8Mb {s : State} (h : s.mf8Mb = false) (t : State) : s.keepsWord t = .next t :=
  unlessFault_of_not_cond h _ t

/-! ## Offers and outputs (R44, R241, R242) -/

/-- An offer is remembered exactly when it was valid and not taken (R44). -/
theorem pendingOffer_eq (valid ready : Bool) (o : Offer) :
    pendingOffer valid ready o = if valid = true ∧ ready = false then some o else none := by
  cases valid <;> cases ready <;> rfl

section
variable {c : Cfg} {r : Regs} (n : Nat)

theorem mbPorts_idle (hm : r.mb.mbState = .idle) :
    (mbPorts c r n).pReady = true ∧ (mbPorts c r n).iValid = false := by
  simp [mbPorts, hm]

theorem mbPorts_transmit (hm : r.mb.mbState = .transmit) :
    mbPorts c r n =
      { pReady := r.inep.ready && r.mb.cntZero, iValid := true, iData := lowByte r.mb.shreg,
        iFirst := r.mb.latFirst && r.mb.cnt == c.wordBytes - 1, iLast := r.mb.latLast && r.mb.cntZero } := by
  simp [mbPorts, hm]

/-- MBIN remembers the word offered against the `p_ready` that it presents. -/
theorem mbinTick_prevOffer (i : Inputs) :
    (mbinTick c r.mb i r.inep.ready).prevOffer =
      pendingOffer i.pValid (mbPorts c r n).pReady ⟨i.pData % 2 ^ (8 * c.wordBytes), i.pFirst, i.pLast⟩ := by
  cases hm : r.mb.mbState
  · rw [(mbPorts_idle n hm).1]
    simp [mbinTick, hm]
  · rw [mbPorts_transmit n hm]
    simp [mbinTick, hm, Mbin.cntZero, beq_eq_decide]

end

/-! ## The bytes of a word (R250, R251) -/

/-- The bytes left of a word, numbered from the one presented next. -/
theorem owedBytes_eq_map (W : Nat) (first last : Bool) (k sh : Nat) :
    owedBytes W first last k sh = (List.range (k + 1)).map fun j =>
      ⟨BitVec.ofNat 8 (sh / 256 ^ j), first && k - j == W - 1, last && j == k⟩ := by
  induction k generalizing sh with
  | zero => simp [owedBytes, lowByte]
  | succ k ih =>
    rw [List.range_succ_eq_map, List.map_cons, List.map_map, owedBytes, ih]
    simp [lowByte, Nat.div_div_eq_div_mul, Nat.pow_succ', Function.comp_def]

/-- A word just latched is owed whole: its `first` is on byte 0, with `cnt` at W − 1, and its `last` on byte W − 1. -/
theorem owedBytes_of_word {W : Nat} (hW : 0 < W) (first last : Bool) (word : Nat) :
    owedBytes W first last (W - 1) word = wordMarks W word first last := by
  rw [owedBytes_eq_map, wordMarks, Nat.sub_add_cancel hW]
  refine List.map_congr_left fun j hj => ?_
  have hj := List.mem_range.mp hj
  have hfirst : (W - 1 - j == W - 1) = (j == 0) := by
    rw [beq_eq_decide, beq_eq_decide, decide_eq_decide]
    omega
  rw [hfirst]

theorem Mbin.owed_idle {m : Mbin} (W : Nat) (hm : m.mbState = .idle) : m.owed W = [] := by
  simp [Mbin.owed, hm]

theorem Mbin.owed_transmit {m : Mbin} (W : Nat) (hm : m.mbState = .transmit) :
    m.owed W = owedBytes W m.latFirst m.latLast m.cnt m.shreg := by
  simp [Mbin.owed, hm]

/-! ## MBIN as a queue of bytes (R244-R248) -/

section
variable {c : Cfg} {r : Regs}

/-- The byte handed on is the first one owed. -/
theorem mbPorts_handed (n : Nat) :
    (if (mbPorts c r n).iValid && r.inep.ready then
        [(⟨(mbPorts c r n).iData, (mbPorts c r n).iFirst, (mbPorts c r n).iLast⟩ : Mark)] else []) =
      if r.inep.ready then (r.mb.owed c.wordBytes).take 1 else [] := by
  cases hm : r.mb.mbState
  · rw [(mbPorts_idle n hm).2, Mbin.owed_idle _ hm]
    simp
  · rw [mbPorts_transmit n hm, Mbin.owed_transmit _ hm]
    cases hk : r.mb.cnt <;> simp [owedBytes, Mbin.cntZero, hk]

/-- After a tick MBIN owes what it owed, less the byte handed on, and the bytes of the word it took behind. -/
theorem mbinTick_owed (hW : 0 < c.wordBytes) (i : Inputs) (n : Nat) :
    (mbinTick c r.mb i r.inep.ready).owed c.wordBytes =
      (if r.inep.ready then (r.mb.owed c.wordBytes).drop 1 else r.mb.owed c.wordBytes) ++
        (if i.pValid && (mbPorts c r n).pReady then
          wordMarks c.wordBytes (i.pData % 2 ^ (8 * c.wordBytes)) i.pFirst i.pLast else []) := by
  rw [← owedBytes_of_word hW]
  cases hm : r.mb.mbState
  case idle =>
    rw [(mbPorts_idle n hm).1, Mbin.owed_idle _ hm]
    cases hv : i.pValid <;> simp [mbinTick, Mbin.owed, hm, hv]
  case transmit =>
    rw [mbPorts_transmit n hm, Mbin.owed_transmit _ hm]
    cases hready : r.inep.ready
    case false => simp [mbinTick, Mbin.owed, hm]
    case true =>
      cases hk : r.mb.cnt
      case zero => cases hv : i.pValid <;> simp [mbinTick, Mbin.owed, owedBytes, Mbin.cntZero, hm, hk, hv]
      case succ k => simp [mbinTick, Mbin.owed, owedBytes, Mbin.cntZero, hm, hk]

end

/-! ## A tick of MBIN (R240, R253) -/

/-- The coming tick is one of MBIN and its inner INEP, no reset tick of them, and takes no fault. -/
structure State.MbinRuns (s : State) : Prop extends s.InepRuns where
  mbin : s.cfg.inSide = .mbin

section
variable {s : State} (h : s.MbinRuns)
include h

/-- The outputs stand as they were presented: no row drives them. -/
theorem State.MbinRuns.out_mb : s.afterStep.out.mb = mbPorts s.cfg s.regs s.draws := by
  obtain ⟨-, -, -, hmb, -⟩ := afterStep_sameIn_of_next h.live h.noReset h.noFault
  obtain ⟨-, -, hdone⟩ := s.openTick.forIn.inTickDone_inep rfl
  exact hmb.trans hdone

/-- The registers are those that R253 gives. -/
theorem State.MbinRuns.mb :
    s.afterStep.regs.mb = mbinTick s.cfg s.regs.mb s.openTick.inp s.regs.inep.ready := by
  obtain ⟨-, hmb, -⟩ := afterStep_sameIn_of_next h.live h.noReset h.noFault
  exact hmb.trans (s.openTick.forIn.inTickDone_mb h.mbin rfl)

/-- The inner INEP reads the stream that MBIN drives. -/
theorem State.MbinRuns.inepIn :
    s.openTick.inepIn = ⟨s.afterStep.out.mb.iValid, s.afterStep.out.mb.iData, s.afterStep.out.mb.iFirst,
      s.afterStep.out.mb.iLast⟩ := by
  simp only [State.inepIn, State.openTick_cfg, h.mbin, h.out_mb]
  rfl

/-- A tick conserves the bytes: those handed on and those then owed are those owed and those of the word taken. -/
theorem State.MbinRuns.conserves :
    s.openTick.byteHanded ++ s.afterStep.regs.mb.owed s.cfg.wordBytes =
      s.regs.mb.owed s.cfg.wordBytes ++ s.openTick.wordTaken := by
  have hhanded : s.openTick.byteHanded =
      if s.regs.inep.ready then (s.regs.mb.owed s.cfg.wordBytes).take 1 else [] := mbPorts_handed s.draws
  have howed : s.afterStep.regs.mb.owed s.cfg.wordBytes =
      (if s.regs.inep.ready then (s.regs.mb.owed s.cfg.wordBytes).drop 1 else s.regs.mb.owed s.cfg.wordBytes) ++
        s.openTick.wordTaken :=
    h.mb ▸ mbinTick_owed (Cfg.wordBytes_pos h.live.1 h.mbin) s.openTick.inp s.draws
  rw [hhanded, howed, ← List.append_assoc]
  cases s.regs.inep.ready
  · rfl
  · exact congrArg (· ++ _) (List.take_append_drop 1 _)

end

end Sys2Proof.Machine

/-! ## The statements -/

namespace Sys2Proof.Proofs

open Sys2Proof.Machine

/-- Settles O59: each tick conserves the bytes with their marks, so any ticks do. -/
theorem mbinHandsOnEveryByteInOrder : Obligations.MbinHandsOnEveryByteInOrder := by
  intro k s hc _ hclean
  have hconserved := collect_conserves (taken := State.byteHanded) (given := State.wordTaken)
    (stock := fun s => s.regs.mb.owed s.cfg.wordBytes) (good := fun k s => s.cfg.inSide = .mbin ∧ s.inClean k)
    ?_ ?_ k s ⟨hc, hclean⟩
  · rw [after_cfg] at hconserved
    exact hconserved.symm
  · rintro k s ⟨hc, hclean⟩
    exact ⟨afterStep_cfg s ▸ hc, (State.inClean_succ hclean).2⟩
  · rintro k s ⟨hc, hclean⟩
    have h : s.MbinRuns := ⟨(State.inClean_succ hclean).1, hc⟩
    rw [afterStep_cfg]
    exact h.conserves

/-- Settles O33: the outputs are those presented from the pre-state; a byte that INEP does not take stays offered. -/
theorem mbinOutputs : Obligations.MbinOutputs := by
  intro s hl hc hr hf m ready
  have h : s.MbinRuns := ⟨⟨hl, hr, hf⟩, hc⟩
  refine ⟨_, h.step_next, fun hm => ?_, fun hm => ?_⟩
  · rw [h.out_mb]
    exact mbPorts_idle _ hm
  · have hW := Cfg.wordBytes_pos hl.1 hc
    rw [h.out_mb, mbPorts_transmit _ hm]
    refine ⟨rfl, BitVec.toNat_ofNat _ _, ?_, ?_, ?_, fun hready => ?_⟩
    · rw [Bool.and_eq_true, beq_iff_eq]
      refine and_congr_right fun _ => ?_
      show s.regs.mb.cnt = _ ↔ (s.regs.mb.cnt : Int) = _
      omega
    · rw [Bool.and_eq_true, Mbin.cntZero, beq_iff_eq]
    · rw [Bool.and_eq_true, Mbin.cntZero, beq_iff_eq]
      rfl
    · have hready : s.regs.inep.ready = false := hready
      obtain ⟨o, hheld⟩ := mbinTick_holds s.openTick.inp hm (c := s.cfg)
      rw [h.mb, hready, hheld]
      exact ⟨hm, rfl, rfl, rfl, rfl⟩

/-- Settles O37: the step takes the IN side's part, which is the tick of R253 and, on the stream presented, that of
R225. -/
theorem mbinTick : Obligations.MbinTick := by
  intro s hl hc hr hf i ready
  have h : s.MbinRuns := ⟨⟨hl, hr, hf⟩, hc⟩
  have hinep := h.inep
  rw [h.inepIn] at hinep
  refine ⟨_, h.step_next, h.mb, hinep, ?_, ?_⟩
  · rw [h.mb, mbinTick_prevOffer s.draws, pendingOffer_eq, h.out_mb]
  · rw [hinep]
    exact pendingOffer_eq _ _ _

/-- Settles O23: each row schedules MBIN's registers, or with no pending word retracted nothing. -/
theorem mbinRows : Obligations.MbinRows := by
  refine fun s => ⟨fun i hi => ?_, ⟨_, rfl, s.onlyMb_schedMb _, rfl⟩, ⟨_, rfl, s.onlyMb_schedMb _, rfl⟩,
    fun h8 => ⟨State.keepsWord_of_not_mf8Mb h8 s, State.keepsWord_of_not_mf8Mb h8 s⟩⟩
  fin_cases hi <;> exact ⟨s.loadWord, rfl, s.onlyMb_schedMb _, rfl⟩

end Sys2Proof.Proofs
end

section
/-! SUPPORT. Proofs of the statements of 60_exceptions.md: what a faulting tick leaves (R271), and which fault of several
a tick takes (R272). -/

namespace Sys2Proof.Machine

/-! ## A recorded fault stops its side (R271) -/

theorem afterStep_eq_self {s : State} (ho : ¬ s.outLive) (hi : ¬ s.inLive) : s.afterStep = s := by
  rcases step_cases s with ⟨-, hs⟩ | ⟨-, hg, -⟩ | ⟨f, hf, -⟩ | ⟨-, -, -, hs⟩
  · simp [State.afterStep, hs]
  · simp [outPart_none ho, inPart_none hi, goesOn] at hg
  · simp [outPart_none ho, inPart_none hi] at hf
  · simp [State.afterStep, hs]

theorem afterStep_of_fault {s : State} {f : Fault} (h : step s = .fault f) :
    s.afterStep = (s.adoptOut s.outPart).adoptIn s.inPart := by
  simp [State.afterStep, h]

theorem after_eq_self (k : Nat) {s : State} (ho : ¬ s.outLive) (hi : ¬ s.inLive) : State.after k s = s := by
  induction k with
  | zero => rfl
  | succ k ih => rw [State.after, afterStep_eq_self ho hi, ih]

/-- A side without a part in the step is one that does not step. -/
theorem not_outLive_of_outPart {s : State} (h : s.outPart = none) : ¬ s.outLive :=
  fun hl => by simp [outPart_of_outLive hl] at h

theorem not_inLive_of_inPart {s : State} (h : s.inPart = none) : ¬ s.inLive :=
  fun hl => by simp [inPart_of_inLive hl] at h

theorem after_sameOut_of_outFault {f : Fault} (k : Nat) {s : State} (h : s.outFault = some f) :
    s.sameOut (State.after k s) := by
  induction k with
  | zero => exact ⟨rfl, rfl, rfl, rfl, rfl, rfl, rfl⟩
  | succ k ih =>
    rw [State.after_succ]
    exact ih.trans (sameOut_afterStep_of_not_outLive (not_outLive_of_outFault (after_outFault k h)))

theorem after_sameIn_of_inFault {f : Fault} (k : Nat) {s : State} (h : s.inFault = some f) :
    s.sameIn (State.after k s) := by
  induction k with
  | zero => exact ⟨rfl, rfl, rfl, rfl, rfl⟩
  | succ k ih =>
    rw [State.after_succ]
    exact ih.trans (sameIn_afterStep_of_not_inLive (not_inLive_of_inFault (after_inFault k h)))

/-! ## The first fault of several (R272) -/

/-- Of conditions listed in an order of priority, the fault of the first that holds. -/
def firstHolding (l : List (Bool × Fault)) : Option Fault := (l.find? (·.1)).map (·.2)

@[simp] theorem firstHolding_nil : firstHolding [] = none := rfl

@[simp] theorem firstHolding_cons (b : Bool) (f : Fault) (l : List (Bool × Fault)) :
    firstHolding ((b, f) :: l) = if b then some f else firstHolding l := by
  cases b <;> rfl

theorem any_iff_firstHolding {l : List (Bool × Fault)} : l.any (·.1) = true ↔ ∃ f, firstHolding l = some f := by
  rw [firstHolding, ← Option.isSome_iff_exists, Option.isSome_map, List.find?_isSome, List.any_eq_true]

/-- The conditions are listed by the places of their faults in the order of R272. -/
def Ranked (l : List (Bool × Fault)) : Prop := l.Pairwise fun p q => p.2.rank < q.2.rank

/-- In a list in that order, the first that holds is the one of least place among those that hold. -/
theorem firstHolding_eq_some_iff {l : List (Bool × Fault)} (hl : Ranked l) {f : Fault} :
    firstHolding l = some f ↔ (true, f) ∈ l ∧ ∀ g, (true, g) ∈ l → f.rank ≤ g.rank := by
  induction l with
  | nil => simp
  | cons p l ih =>
    obtain ⟨b, e⟩ := p
    obtain ⟨hhead, htail⟩ := List.pairwise_cons.mp hl
    cases b with
    | false => simpa using ih htail
    | true =>
      simp only [firstHolding_cons, if_true, Option.some.injEq]
      constructor
      · rintro rfl
        refine ⟨List.mem_cons_self, fun g hg => ?_⟩
        rcases List.mem_cons.mp hg with h | h
        · cases h; exact le_rfl
        · exact (hhead _ h).le
      · rintro ⟨hf, hleast⟩
        rcases List.mem_cons.mp hf with h | h
        · cases h; rfl
        · exact absurd (hhead _ h) (Nat.not_lt.mpr (hleast e List.mem_cons_self))

theorem firstFault_cases (g h : Fault) :
    (firstFault g h = g ∧ g.rank ≤ h.rank) ∨ (firstFault g h = h ∧ h.rank < g.rank) := by
  unfold firstFault
  split
  next hlt => exact .inr ⟨rfl, hlt⟩
  next hle => exact .inl ⟨rfl, Nat.not_lt.mp hle⟩

/-- The first of two lists' firsts is the first of the one list over the conditions of both. -/
theorem firstHolding_merge {a b c : List (Bool × Fault)} (ha : Ranked a) (hb : Ranked b) (hc : Ranked c)
    (hmem : ∀ f, (true, f) ∈ c ↔ (true, f) ∈ a ∨ (true, f) ∈ b) {g h : Fault}
    (hg : firstHolding a = some g) (hh : firstHolding b = some h) : firstHolding c = some (firstFault g h) := by
  obtain ⟨hga, hgleast⟩ := (firstHolding_eq_some_iff ha).mp hg
  obtain ⟨hhb, hhleast⟩ := (firstHolding_eq_some_iff hb).mp hh
  rw [firstHolding_eq_some_iff hc]
  rcases firstFault_cases g h with ⟨heq, hle⟩ | ⟨heq, hlt⟩ <;> rw [heq]
  · refine ⟨(hmem g).mpr (.inl hga), fun e he => ?_⟩
    exact ((hmem e).mp he).elim (hgleast e) fun hb => hle.trans (hhleast e hb)
  · refine ⟨(hmem h).mpr (.inr hhb), fun e he => ?_⟩
    exact ((hmem e).mp he).elim (fun ha => hlt.le.trans (hgleast e ha)) (hhleast e)

/-! ## The conditions of a tick (R270), in the order of R272 -/

/-- The conditions of the OUT side. -/
def State.outConditions (s : State) : List (Bool × Fault) :=
  [(s.cfg.outSide == .outep && s.mf10, .tokenBothDirections), (s.mf1, .bothVerdicts), (s.mf2, .byteWithVerdict),
    (s.mf3, .bothRequests), (s.mf4, .responseTiming), (s.mf5, .commitAndDiscard), (s.mf6, .commitAndUnread),
    (s.mf7, .overrun)]

/-- The conditions of the IN side. -/
def State.inConditions (s : State) : List (Bool × Fault) :=
  [(s.mf10, .tokenBothDirections), (s.mf11, .inReqWithAck), (s.mf9, .inReqDuringTx), (s.mf8, .offerRetracted)]

/-- The conditions of both sides. -/
def State.conditions (s : State) : List (Bool × Fault) :=
  [(s.mf10, .tokenBothDirections), (s.mf1, .bothVerdicts), (s.mf2, .byteWithVerdict), (s.mf3, .bothRequests),
    (s.mf4, .responseTiming), (s.mf11, .inReqWithAck), (s.mf9, .inReqDuringTx), (s.mf8, .offerRetracted),
    (s.mf5, .commitAndDiscard), (s.mf6, .commitAndUnread), (s.mf7, .overrun)]

theorem State.outTickFault_eq (s : State) : s.outTickFault = firstHolding s.outConditions := by
  simp only [State.outConditions, firstHolding_cons, firstHolding_nil]
  rfl

theorem State.inTickFault_eq (s : State) : s.inTickFault = firstHolding s.inConditions := by
  simp only [State.inConditions, firstHolding_cons, firstHolding_nil]
  rfl

theorem State.outConditions_ranked (s : State) : Ranked s.outConditions := by
  simp [Ranked, State.outConditions, Fault.rank]

theorem State.inConditions_ranked (s : State) : Ranked s.inConditions := by
  simp [Ranked, State.inConditions, Fault.rank]

theorem State.conditions_ranked (s : State) : Ranked s.conditions := by
  simp [Ranked, State.conditions, Fault.rank]

/-- MF10 of the OUT side is MF10 of the IN side too, so the one list has no condition that neither side has. -/
theorem State.mem_conditions (s : State) (f : Fault) :
    (true, f) ∈ s.conditions ↔ (true, f) ∈ s.outConditions ∨ (true, f) ∈ s.inConditions := by
  simp only [State.conditions, State.outConditions, State.inConditions, List.mem_cons, Prod.mk.injEq, List.not_mem_nil,
    or_false, Bool.true_eq, Bool.and_eq_true]
  grind (splits := 20)

/-! ## What a side records (R271, R272) -/

theorem afterStep_outFault {s : State} (h : s.outLive) (hr : s.openTick.inp.rst = false) :
    s.afterStep.outFault = s.openTick.outTickFault := by
  cases hf : s.openTick.outTickFault with
  | some f =>
    obtain ⟨-, -, -, -, -, -, hof⟩ := afterStep_sameOut_of_fault h hr hf
    exact hof
  | none =>
    obtain ⟨-, -, -, -, -, -, hof⟩ := afterStep_sameOut_of_next h hr hf
    exact hof.trans h.2

theorem afterStep_inFault {s : State} (h : s.inLive) (hr : s.openTick.inp.inRst = false) :
    s.afterStep.inFault = s.openTick.inTickFault := by
  cases hf : s.openTick.inTickFault with
  | some f =>
    obtain ⟨-, -, -, -, hif⟩ := afterStep_sameIn_of_fault h hr hf
    exact hif
  | none =>
    obtain ⟨-, -, -, -, hif⟩ := afterStep_sameIn_of_next h hr hf
    exact hif.trans h.2

theorem afterStep_outFault_of_reset {s : State} (h : s.outLive) (hr : s.openTick.inp.rst = true) :
    s.afterStep.outFault = none := by
  obtain ⟨-, -, -, -, -, -, hof⟩ := afterStep_sameOut s
  rw [outPart_live h, hr] at hof
  exact hof.trans h.2

theorem afterStep_inFault_of_reset {s : State} (h : s.inLive) (hr : s.openTick.inp.inRst = true) :
    s.afterStep.inFault = none := by
  obtain ⟨-, -, -, -, hif⟩ := afterStep_sameIn s
  rw [inPart_live h, hr] at hif
  exact hif.trans h.2

/-! ## The fault a step answers (log 8) -/

theorem outPart_of_outTickFault {s : State} {f : Fault} (h : s.outLive) (hr : s.openTick.inp.rst = false)
    (hf : s.openTick.outTickFault = some f) : s.outPart = some (.fault f) := by
  rw [outPart_live h, hr, hf]
  rfl

theorem inPart_of_inTickFault {s : State} {f : Fault} (h : s.inLive) (hr : s.openTick.inp.inRst = false)
    (hf : s.openTick.inTickFault = some f) : s.inPart = some (.fault f) := by
  rw [inPart_live h, hr, hf]
  rfl

theorem legal_of_outLive {s : State} (h : s.outLive) : s.cfg.legal = true := by simp [Cfg.legal, h.1]

theorem legal_of_inLive {s : State} (h : s.inLive) : s.cfg.legal = true := by simp [Cfg.legal, h.1]

/-- A machine of the OUT side alone answers that side's fault. -/
theorem step_eq_fault_iff_of_outLive {s : State} (h : s.outLive) (hi : ¬ s.inLive) (hr : s.openTick.inp.rst = false)
    (f : Fault) : step s = .fault f ↔ s.openTick.outTickFault = some f := by
  cases hf : s.openTick.outTickFault with
  | none => simp [step_out_next h hr hf]
  | some g => simp [step_of_outFault (legal_of_outLive h) (outPart_of_outTickFault h hr hf) (inPart_none hi)]

/-- A machine of the IN side alone answers that side's fault. -/
theorem step_eq_fault_iff_of_inLive {s : State} (h : s.inLive) (ho : ¬ s.outLive) (hr : s.openTick.inp.inRst = false)
    (f : Fault) : step s = .fault f ↔ s.openTick.inTickFault = some f := by
  cases hf : s.openTick.inTickFault with
  | none => simp [step_in_next h hr hf]
  | some g => simp [step_of_inFault (legal_of_inLive h) (outPart_none ho) (inPart_of_inTickFault h hr hf)]

/-- A machine of both sides answers a fault where both fault, the first of the two. -/
theorem step_eq_fault_iff_of_live {s : State} (ho : s.outLive) (hi : s.inLive) (hr : s.openTick.inp.rst = false)
    (hr' : s.openTick.inp.inRst = false) (f : Fault) :
    step s = .fault f ↔ ∃ g h, s.openTick.outTickFault = some g ∧ s.openTick.inTickFault = some h ∧
      firstFault g h = f := by
  cases hg : s.openTick.outTickFault with
  | none => simp [step_out_next ho hr hg]
  | some g =>
    cases hh : s.openTick.inTickFault with
    | none => simp [step_in_next hi hr' hh]
    | some h =>
      simp [step_of_bothFaults (legal_of_outLive ho) (outPart_of_outTickFault ho hr hg)
        (inPart_of_inTickFault hi hr' hh)]

/-- The same in the one order over the conditions of both. -/
theorem step_eq_fault_iff_conditions {s : State} (ho : s.outLive) (hi : s.inLive) (hr : s.openTick.inp.rst = false)
    (hr' : s.openTick.inp.inRst = false) (f : Fault) :
    step s = .fault f ↔ s.openTick.outConditions.any (·.1) = true ∧ s.openTick.inConditions.any (·.1) = true ∧
      firstHolding s.openTick.conditions = some f := by
  rw [step_eq_fault_iff_of_live ho hi hr hr', State.outTickFault_eq, State.inTickFault_eq, any_iff_firstHolding,
    any_iff_firstHolding]
  have hmerge {g h : Fault} (hg : firstHolding s.openTick.outConditions = some g)
      (hh : firstHolding s.openTick.inConditions = some h) :
      firstHolding s.openTick.conditions = some (firstFault g h) :=
    firstHolding_merge (State.outConditions_ranked _) (State.inConditions_ranked _) (State.conditions_ranked _)
      (State.mem_conditions _) hg hh
  constructor
  · rintro ⟨g, h, hg, hh, rfl⟩
    exact ⟨⟨g, hg⟩, ⟨h, hh⟩, hmerge hg hh⟩
  · rintro ⟨⟨g, hg⟩, ⟨h, hh⟩, hf⟩
    exact ⟨g, h, hg, hh, Option.some.inj ((hmerge hg hh).symm.trans hf)⟩

/-! ## The conditions, one form for every configuration (R270) -/

theorem State.mf4_eq (s : State) : s.mf4 =
    (s.cfg.outSide == .outep && (s.inp.dataReq && s.targetingEndpoint && !s.inp.rxComplete)) := by
  simp only [State.mf4, Bool.and_assoc]

theorem State.mf5_eq (s : State) : s.mf5 =
    if s.cfg.outSide == .outep then s.inp.rxComplete && s.inp.rxInvalid else s.inp.wc && s.inp.wdis := by
  unfold State.mf5
  cases s.cfg.outSide <;> rfl

theorem State.mf6_eq (s : State) : s.mf6 = (!(s.cfg.outSide == .outep) && (s.inp.rc && s.inp.rdis)) := by
  unfold State.mf6
  cases s.cfg.outSide <;> rfl

theorem State.mf7_eq (s : State) : s.mf7 =
    ((if s.cfg.outSide == .outep then s.okayToReceive && s.bdEmits else s.inp.we) &&
      s.regs.tf.full s.cfg.bufDepth) := by
  unfold State.mf7
  cases s.cfg.outSide <;> rfl

/-- MF8 spelled out (R270): the offer pending is withdrawn, or its payload, `first` or `last` has changed. -/
theorem retractedOrChanged_eq (prev : Option Offer) (valid : Bool) (now : Offer) :
    retractedOrChanged prev valid now =
      match prev with
      | none => false
      | some p => !valid || p.data != now.data || p.first != now.first || p.last != now.last := by
  cases prev with
  | none => rfl
  | some p =>
    have hoffer : (p == now) = (p.data == now.data && p.first == now.first && p.last == now.last) := by
      rw [Bool.eq_iff_iff]
      cases p; cases now
      simp [and_assoc]
    simp only [retractedOrChanged, hoffer, bne, Bool.not_and, Bool.or_assoc]

theorem State.mf8_eq (s : State) : s.mf8 =
    ((s.cfg.inSide == .mbin &&
        match s.regs.mb.prevOffer with
        | none => false
        | some p => !s.inp.pValid || p.data != s.word || p.first != s.inp.pFirst || p.last != s.inp.pLast) ||
      match s.regs.inep.prevOffer with
      | none => false
      | some p => !s.inepIn.valid || p.data != s.inepIn.data.toNat || p.first != s.inepIn.first ||
          p.last != s.inepIn.last) := by
  unfold State.mf8 State.mf8Mb State.mf8In
  rw [retractedOrChanged_eq, retractedOrChanged_eq]
  cases s.cfg.inSide <;> rfl

end Sys2Proof.Machine

/-! ## The statements -/

namespace Sys2Proof.Proofs

open Sys2Proof.Machine

/-- Settles O10: a side's part of a faulting tick is the record alone, and a recorded fault stops the side. -/
theorem faultIsRecordedAndSticky : Obligations.FaultIsRecordedAndSticky := by
  refine ⟨fun s f hl hr hf => ?_, fun s f k => after_sameOut_of_outFault k, fun s f hl hr hf => ?_,
    fun s f k => after_sameIn_of_inFault k, fun s f hs => ?_⟩
  · obtain ⟨htf, hbd, htog, hotf, hobd, hoo, hof⟩ := afterStep_sameOut_of_fault hl hr hf
    exact ⟨hof, htf, hbd, htog, hotf, hobd, hoo, rfl⟩
  · obtain ⟨hinep, hmb, hoi, hom, hif⟩ := afterStep_sameIn_of_fault hl hr hf
    exact ⟨hif, hinep, hmb, hoi, hom, rfl⟩
  · rcases step_cases s with ⟨-, h⟩ | ⟨-, -, h⟩ | ⟨e, he, h⟩ | ⟨-, -, -, h⟩ <;> cases h.symm.trans hs
    rw [afterStep_of_fault hs]
    rcases he with ⟨ho, hi⟩ | ⟨ho, hi⟩ | ⟨g, e, ho, hi, rfl⟩ <;> rw [ho, hi]
    · exact ⟨some f, s.inFault, rfl, .inl rfl, fun k =>
        after_eq_self k (not_outLive_of_outFault rfl) (not_inLive_of_inPart (s := s) hi)⟩
    · exact ⟨s.outFault, some f, rfl, .inr rfl, fun k =>
        after_eq_self k (not_outLive_of_outPart (s := s) ho) (not_inLive_of_inFault rfl)⟩
    · refine ⟨some g, some e, rfl, ?_, fun k =>
        after_eq_self k (not_outLive_of_outFault rfl) (not_inLive_of_inFault rfl)⟩
      rcases firstFault_cases g e with ⟨heq, -⟩ | ⟨heq, -⟩ <;> simp [heq]

/-- Settles O11: each side takes the first of its conditions, and the first of two firsts is that of the one order. -/
theorem faultPriority : Obligations.FaultPriority := by
  intro s u i outep wordChanged byteChanged mf1 mf2 mf3 mf4 mf5 mf6 mf7 mf8 mf9 mf10 mf11 outOrder inOrder order
  have h1 : u.mf1 = mf1 := Bool.and_assoc ..
  have h2 : u.mf2 = mf2 := Bool.and_assoc ..
  have h3 : u.mf3 = mf3 := Bool.and_assoc ..
  have h4 : u.mf4 = mf4 := u.mf4_eq
  have h5 : u.mf5 = mf5 := u.mf5_eq
  have h6 : u.mf6 = mf6 := u.mf6_eq
  have h7 : u.mf7 = mf7 := u.mf7_eq
  have h8 : u.mf8 = mf8 := u.mf8_eq
  have hout : u.outConditions = outOrder := by
    rw [State.outConditions, h1, h2, h3, h4, h5, h6, h7]
    rfl
  have hin : u.inConditions = inOrder := by
    rw [State.inConditions, h8]
    rfl
  have hboth : u.conditions = order := by
    rw [State.conditions, h1, h2, h3, h4, h5, h6, h7, h8]
    rfl
  have houtFault : u.outTickFault = firstHolding outOrder := hout ▸ u.outTickFault_eq
  have hinFault : u.inTickFault = firstHolding inOrder := hin ▸ u.inTickFault_eq
  refine ⟨fun hl hr => (afterStep_outFault hl hr).trans houtFault, afterStep_outFault_of_reset,
    fun f hf => after_outFault 1 hf, fun hl hr => (afterStep_inFault hl hr).trans hinFault, afterStep_inFault_of_reset,
    fun f hf => after_inFault 1 hf, fun hl hi hr f => ?_, fun hl ho hr f => ?_, fun ho hi hr hr' f => ?_⟩
  · exact (step_eq_fault_iff_of_outLive hl hi hr f).trans (Eq.congr_left houtFault)
  · exact (step_eq_fault_iff_of_inLive hl ho hr f).trans (Eq.congr_left hinFault)
  · rw [← hout, ← hin, ← hboth]
    exact step_eq_fault_iff_conditions ho hi hr hr' f

end Sys2Proof.Proofs
end

section
/-! SUPPORT. Proofs of the statements of 70_reset_and_hazards.md: the reset tick (R291, R292), the configuration (R296),
and why a run that keeps the duties of R297 takes no fault. -/

namespace Sys2Proof.Machine

/-! ## A reset tick of one side (R291, R293) -/

/-- A reset tick of the OUT side leaves what RESET schedules and drives, and the side goes on. -/
theorem step_next_of_outReset {s : State} (hl : s.outLive) (hr : s.openTick.inp.rst = true) :
    ∃ t, step s = .next t ∧ t.outLive ∧ t.regs.tf = s.regs.afterReset.tf ∧ t.regs.bd = s.regs.afterReset.bd ∧
      t.regs.expectedDataToggle = false ∧ t.out.outp = (s.openTick.out.forcedIdle s.draws).outp := by
  have hpart : s.outPart = some (.next s.openTick.resetDone) := by
    rw [outPart_live hl, hr]
    rfl
  obtain ⟨t, hs, ⟨htf, hbd, htog, -, -, hoo, -⟩, hof⟩ := step_hasOutPart hl hpart
  exact ⟨t, hs, ⟨step_cfg hs ▸ hl.1, hof⟩, htf, hbd, htog, hoo⟩

/-- A reset tick of the IN side, by its own `rst`. -/
theorem step_next_of_inReset {s : State} (hl : s.inLive) (hr : s.openTick.inp.inRst = true) :
    ∃ t, step s = .next t ∧ t.inLive ∧ t.regs.inep = s.regs.afterReset.inep ∧ t.regs.mb = s.regs.afterReset.mb ∧
      t.out.inp = (s.openTick.out.forcedIdle s.draws).inp ∧ t.out.mb = (s.openTick.out.forcedIdle s.draws).mb := by
  have hpart : s.inPart = some (.next s.openTick.forIn.resetDone) := by
    rw [inPart_live hl, hr]
    rfl
  obtain ⟨t, hs, ⟨hinep, hmb, hoi, hom, -⟩, hif⟩ := step_hasInPart hl hpart
  exact ⟨t, hs, ⟨step_cfg hs ▸ hl.1, hif⟩, hinep, hmb, hoi, hom⟩

/-! ## The ports of a tick, one step later -/

/-- While the OUT side goes on, the ports of the tick are those that the next tick's levels start from (R107). -/
theorem afterStep_inp_of_next {s t : State} (h : step s = .next t) (hl : s.outLive) :
    s.afterStep.inp = s.openTick.inp := by
  rw [afterStep_of_next h]
  exact (step_reads_line h (.inl hl)).1

/-! ## What one duty excludes (R270, R297) -/

section
variable {d : Duties} {prev : Inputs} {u : State}

/-- The duties that concern the OUT side, where it steps. -/
theorem Duties.allow_out (h : d.allow prev u = true) (hr : u.outRuns = true) :
    d.tokenStable prev u = true ∧ Duties.verdictApart u = true ∧ Duties.responseInTime u = true ∧
      d.lengthOk u = true := by
  simp only [Duties.allow, hr, Bool.not_true, Bool.false_or, Bool.and_eq_true] at h
  obtain ⟨⟨⟨⟨⟨⟨htok, hverdict⟩, -⟩, hresp⟩, -⟩, -⟩, -, hlen⟩ := h
  exact ⟨htok, hverdict, hresp, hlen⟩

/-- The duties that concern the IN side, where it steps. -/
theorem Duties.allow_in (h : d.allow prev u = true) (hr : u.inRuns = true) :
    d.tokenStable prev u = true ∧ Duties.requestApart u = true ∧ d.offerStands u = true := by
  simp only [Duties.allow, hr, Bool.not_true, Bool.false_or, Bool.and_eq_true] at h
  obtain ⟨⟨⟨⟨⟨⟨htok, -⟩, -⟩, -⟩, -⟩, ⟨hreq, -⟩, hoffer⟩, -⟩ := h
  exact ⟨htok, hreq, hoffer⟩

/-- Duty 1 excludes MF10. -/
theorem Duties.not_mf10 (h : d.tokenStable prev u = true) : u.mf10 = false := by
  simp only [Duties.tokenStable, Bool.and_eq_true, Bool.not_eq_true'] at h
  exact h.1.1

/-- Duty 1 holds the token while a packet is under way: it names this endpoint now where it did before. -/
theorem Duties.targeting_of_inPacket {s : State} (h : d.tokenStable s.inp s.openTick = true)
    (hp : d.inPacket = true) (ht : s.openTick.targetingEndpoint = true) : s.targetingEndpoint = true := by
  simp only [Duties.tokenStable, hp, Bool.not_true, Bool.false_and, Bool.or_false, sameToken, Bool.and_eq_true,
    beq_iff_eq] at h
  obtain ⟨-, ⟨hep, hout⟩, -⟩ := h
  rwa [State.targetingEndpoint, hep, hout, State.openTick_cfg] at ht

/-- Duty 2 excludes MF1, MF2 and, in OUTEP, MF5. -/
theorem Duties.not_mf1_mf2_mf5 (h : Duties.verdictApart u = true) (hc : u.cfg.outSide = .outep) :
    u.mf1 = false ∧ u.mf2 = false ∧ u.mf5 = false := by
  simp only [Duties.verdictApart, Bool.and_eq_true, Bool.not_eq_true'] at h
  obtain ⟨hboth, hbyte⟩ := h
  simp only [State.mf1, State.mf2, State.mf5, hc, beq_self_eq_true, Bool.true_and]
  exact ⟨hboth, hbyte, hboth⟩

/-- Duty 4 excludes MF3 and MF4. -/
theorem Duties.not_mf3_mf4 (h : Duties.responseInTime u = true) : u.mf3 = false ∧ u.mf4 = false := by
  simp only [Duties.responseInTime, Bool.and_eq_true] at h
  obtain ⟨⟨-, hverdict⟩, hping⟩ := h
  unfold State.mf3 State.mf4
  cases hd : u.inp.dataReq
  · simp
  · rw [hd] at hverdict hping
    have hcomplete : u.inp.rxComplete = true := hverdict
    have hping : u.inp.pingReq = false := by simpa using hping
    simp [hcomplete, hping]

/-- Duty 7 excludes MF11 and MF9. -/
theorem Duties.not_mf11_mf9 (h : Duties.requestApart u = true) : u.mf11 = false ∧ u.mf9 = false := by
  unfold State.mf11 State.mf9
  cases hq : u.inp.inReq
  · simp
  · simp only [Duties.requestApart, hq, Bool.not_true, Bool.false_or, Bool.and_eq_true, Bool.not_eq_true'] at h
    obtain ⟨⟨-, hack⟩, htx⟩ := h
    exact ⟨hack, htx⟩

/-- Duty 12 excludes MF8 on the producer's own stream. -/
theorem Duties.not_producerMf8 (h : d.offerStands u = true) : producerMf8 u = false := by
  simp only [Duties.offerStands, Bool.and_eq_true, Bool.not_eq_true'] at h
  exact h.1

end

/-! ## The IN side takes no fault -/

/-- MBIN never retracts what it offers to its inner INEP (R242, R245). -/
theorem not_mf8In_of_offerHeld {s : State} (h : offerHeld s.cfg s.regs) (hc : s.cfg.inSide = .mbin) :
    s.openTick.mf8In = false := by
  unfold State.mf8In
  cases ho : s.regs.inep.prevOffer with
  | none => simp [ho, retractedOrChanged]
  | some o =>
    obtain ⟨hm, hdata, hfirst, hlast⟩ := h hc o ho
    have hoffer : o = ⟨(lowByte s.regs.mb.shreg).toNat, s.regs.mb.latFirst && s.regs.mb.cnt == s.cfg.wordBytes - 1,
        s.regs.mb.latLast && s.regs.mb.cntZero⟩ := by rw [← hdata, ← hfirst, ← hlast]
    simp [ho, hoffer, retractedOrChanged, State.inepOffer, State.inepIn, hc, presented, mbPorts, hm]

/-- A tick that keeps the duties takes no fault of the IN side. -/
theorem inTickFault_of_allow {s : State} {d : Duties} (hinv : s.Inv) (hl : s.inLive)
    (h : d.allow s.inp s.openTick = true) : s.openTick.inTickFault = none := by
  have hr : s.openTick.inRuns = true := by simp [State.inRuns, hl.1, hl.2]
  obtain ⟨htok, hreq, hoffer⟩ := Duties.allow_in h hr
  have h10 := Duties.not_mf10 htok
  obtain ⟨h11, h9⟩ := Duties.not_mf11_mf9 hreq
  have hproducer := Duties.not_producerMf8 hoffer
  have h8 : s.openTick.mf8 = false := by
    unfold producerMf8 at hproducer
    unfold State.mf8
    cases hc : s.cfg.inSide <;> simp only [State.openTick_cfg, hc] at hproducer ⊢
    · exact hproducer
    · rw [hproducer, not_mf8In_of_offerHeld hinv.offer hc, Bool.or_false]
  simp only [State.inTickFault, h10, h11, h9, h8, Bool.false_eq_true, if_false]

/-! ## The packet that the monitor follows (R300) -/

/-- How many bytes of a packet under way have come. -/
def Duties.packetBytes (d : Duties) : Nat := if d.inPacket then d.bytes else 0

theorem Duties.packetBytes_next (d : Duties) (prev : Inputs) (u : State) :
    (d.next prev u).packetBytes =
      if u.inp.rxNext then d.packetBytes + 1 else if u.verdict then 0 else d.packetBytes := by
  unfold Duties.packetBytes Duties.next State.verdict
  cases u.inp.rxNext
  · cases d.inPacket <;> cases (u.inp.rxComplete || u.inp.rxInvalid) <;> rfl
  · rfl

/-- What the monitor knows of the endpoint: no more bytes of the packet are in it than have come, and those are at most
`MPS` where the token names the endpoint. -/
structure Duties.Follows (d : Duties) (s : State) : Prop where
  received : s.packetBytes ≤ d.packetBytes
  fits     : s.targetingEndpoint = true → d.packetBytes ≤ s.cfg.outMps

/-- As the tick opens, the packet under way still fits where the token names the endpoint. -/
theorem Duties.Follows.fits_openTick {d : Duties} {s : State} (hf : d.Follows s)
    (h : d.tokenStable s.inp s.openTick = true) (ht : s.openTick.targetingEndpoint = true) :
    d.packetBytes ≤ s.cfg.outMps := by
  cases hp : d.inPacket
  · simp [Duties.packetBytes, hp]
  · exact hf.fits (Duties.targeting_of_inPacket h hp ht)

/-- Duty 10: with the byte of this tick the packet fits too. -/
theorem Duties.Follows.fits_next {d : Duties} {s : State} (hf : d.Follows s)
    (h : d.tokenStable s.inp s.openTick = true) (hlen : d.lengthOk s.openTick = true)
    (ht : s.openTick.targetingEndpoint = true) :
    (d.next s.inp s.openTick).packetBytes ≤ s.cfg.outMps := by
  rw [Duties.packetBytes_next]
  split
  next hb =>
    rw [Duties.lengthOk, hb, ht] at hlen
    exact of_decide_eq_true hlen
  next =>
    split
    · exact Nat.zero_le _
    · exact hf.fits_openTick h ht

/-- Room for a packet that fits is room for each of its bytes: MF7 is excluded (R164, R193). -/
theorem Duties.Follows.not_mf7 {d : Duties} {s : State} (hf : d.Follows s)
    (h : d.tokenStable s.inp s.openTick = true) (hc : s.cfg.outSide = .outep) : s.openTick.mf7 = false := by
  refine Bool.eq_false_iff.mpr fun h7 => ?_
  have hmore : s.cfg.outMps < s.packetBytes := State.mps_lt_packetBytes_of_mf7 (s := s.openTick) hc h7
  have ht : s.openTick.targetingEndpoint = true := by
    simp only [State.mf7, State.openTick_cfg, hc, Bool.and_eq_true] at h7
    exact (State.okayToReceive_iff.mp h7.1.1).1
  exact absurd (hf.received.trans (hf.fits_openTick h ht)) (Nat.not_le.mpr hmore)

/-- A tick that keeps the duties takes no fault of OUTEP. -/
theorem Duties.Follows.outTickFault {d : Duties} {s : State} (hf : d.Follows s) (hc : s.cfg.outSide = .outep)
    (hl : s.outLive) (h : d.allow s.inp s.openTick = true) : s.openTick.outTickFault = none := by
  have hr : s.openTick.outRuns = true := by simp [State.outRuns, hl.1, hl.2]
  obtain ⟨htok, hverdict, hresp, -⟩ := Duties.allow_out h hr
  have h10 := Duties.not_mf10 htok
  obtain ⟨h1, h2, h5⟩ := Duties.not_mf1_mf2_mf5 hverdict hc
  obtain ⟨h3, h4⟩ := Duties.not_mf3_mf4 hresp
  have h6 : s.openTick.mf6 = false := by simp [State.mf6, hc]
  have h7 := hf.not_mf7 htok hc
  simp only [State.outTickFault, h10, h1, h2, h3, h4, h5, h6, h7, Bool.and_false, Bool.false_eq_true, if_false]

/-- A verdict leaves no byte of its packet outside the committed range (R118, R119, R145-R148). -/
theorem State.OutepRuns.packetBytes_of_verdict {s : State} (h : s.OutepRuns) (hv : s.openTick.verdict = true) :
    s.afterStep.packetBytes = 0 := by
  have hv' : (s.openTick.inp.rxComplete || s.openTick.inp.rxInvalid) = true := hv
  obtain ⟨-, h2, -⟩ := outTickFault_none h.noFault
  have hnext : s.openTick.inp.rxNext = false := by
    rwa [State.mf2, hv', Bool.and_true, State.openTick_cfg, h.outep, beq_self_eq_true, Bool.true_and] at h2
  have hrun : s.afterStep.regs.tf.nS = 0 := by
    rw [h.tf, tfTick_nS]
    exact if_pos hv
  have hheld : s.afterStep.regs.bd.held = [] := by
    rw [h.bd, bdTick, hnext, hv']
    rfl
  rw [State.packetBytes, hrun, hheld]
  rfl

/-- The monitor's count stays above the endpoint's in a tick without reset. -/
theorem Duties.Follows.received_next {d : Duties} {s : State} (hf : d.Follows s) (hinv : s.Inv) (h : s.OutepRuns) :
    s.afterStep.packetBytes ≤ (d.next s.inp s.openTick).packetBytes := by
  have hreceived := hf.received
  rw [Duties.packetBytes_next]
  cases hv : s.openTick.verdict
  · have hle := h.packetBytes_le hinv hv
    cases hb : s.openTick.inp.rxNext <;> rw [State.byteReceived, hb] at hle
    · exact hle.trans hreceived
    · exact hle.trans (Nat.succ_le_succ hreceived)
  · rw [h.packetBytes_of_verdict hv]
    exact Nat.zero_le _

/-- A tick that keeps the duties leaves no fault of OUTEP, and the monitor still follows its packet. -/
theorem Duties.Follows.afterStep {d : Duties} {s : State} (hf : d.Follows s) (hinv : s.Inv)
    (hc : s.cfg.outSide = .outep) (hl : s.outLive) (h : d.allow s.inp s.openTick = true) :
    s.afterStep.outLive ∧ (d.next s.inp s.openTick).Follows s.afterStep := by
  have hr : s.openTick.outRuns = true := by simp [State.outRuns, hl.1, hl.2]
  obtain ⟨htok, -, -, hlen⟩ := Duties.allow_out h hr
  have hfits {t : State} (hs : step s = .next t) (ht : s.afterStep.targetingEndpoint = true) :
      (d.next s.inp s.openTick).packetBytes ≤ s.afterStep.cfg.outMps := by
    rw [State.targetingEndpoint, afterStep_inp_of_next hs hl, afterStep_cfg] at ht
    exact afterStep_cfg s ▸ hf.fits_next htok hlen ht
  cases hrst : s.openTick.inp.rst
  · have hrun : s.OutepRuns := ⟨hc, hl, hrst, hf.outTickFault hc hl h⟩
    have hof : s.afterStep.outFault = none := (afterStep_outFault hl hrst).trans hrun.noFault
    exact ⟨⟨afterStep_cfg s ▸ hl.1, hof⟩, hf.received_next hinv hrun, hfits hrun.step_next⟩
  · obtain ⟨t, hs, hl', htf, hbd, -⟩ := step_next_of_outReset hl hrst
    have hempty : s.afterStep.packetBytes = 0 := by
      rw [State.packetBytes, afterStep_of_next hs, htf, hbd]
      rfl
    exact ⟨afterStep_of_next hs ▸ hl', hempty ▸ Nat.zero_le _, hfits hs⟩

/-! ## Runs that keep the duties -/

/-- What every tick that keeps the duties keeps, together with the monitor, holds at the end of a run of them. -/
theorem dutifulFrom_keeps {P : Duties → State → Prop}
    (hstep : ∀ d s, P d s → d.allow s.inp s.openTick = true → P (d.next s.inp s.openTick) s.afterStep)
    (k : Nat) {d : Duties} {s : State} (h : P d s) (hd : State.dutifulFrom k d s = true) :
    ∃ d', P d' (State.after k s) := by
  induction k generalizing d s with
  | zero => exact ⟨d, h⟩
  | succ k ih =>
    obtain ⟨hnow, hrest⟩ := Bool.and_eq_true_iff.mp hd
    exact ih (hstep d s h hnow) hrest

/-- What such a run keeps of the OUT side. -/
structure State.OutKept (d : Duties) (s : State) : Prop where
  inv     : s.Inv
  outep   : s.cfg.outSide = .outep
  noFault : s.outFault = none
  follows : s.cfg.outBuilt = true → d.Follows s

theorem State.OutKept.afterStep {d : Duties} {s : State} (hk : s.OutKept d) (h : d.allow s.inp s.openTick = true) :
    s.afterStep.OutKept (d.next s.inp s.openTick) := by
  have hinv := afterStep_inv hk.inv
  have hc : s.afterStep.cfg.outSide = .outep := afterStep_cfg s ▸ hk.outep
  by_cases hb : s.cfg.outBuilt = true
  · obtain ⟨hl, hf⟩ := (hk.follows hb).afterStep hk.inv hk.outep ⟨hb, hk.noFault⟩ h
    exact ⟨hinv, hc, hl.2, fun _ => hf⟩
  · obtain ⟨-, -, -, -, -, -, hof⟩ := sameOut_afterStep_of_not_outLive (s := s) fun hl => hb hl.1
    exact ⟨hinv, hc, hof.trans hk.noFault, fun hb' => absurd (afterStep_cfg s ▸ hb') hb⟩

/-- What such a run keeps of the IN side. -/
structure State.InKept (s : State) : Prop where
  inv     : s.Inv
  noFault : s.inFault = none

theorem State.InKept.afterStep {d : Duties} {s : State} (hk : s.InKept) (h : d.allow s.inp s.openTick = true) :
    s.afterStep.InKept := by
  refine ⟨afterStep_inv hk.inv, ?_⟩
  by_cases hl : s.inLive
  · cases hrst : s.openTick.inp.inRst
    · exact (afterStep_inFault hl hrst).trans (inTickFault_of_allow hk.inv hl h)
    · exact afterStep_inFault_of_reset hl hrst
  · obtain ⟨-, -, -, -, hif⟩ := sameIn_afterStep_of_not_inLive hl
    exact hif.trans hk.noFault

end Sys2Proof.Machine

/-! ## The statements -/

namespace Sys2Proof.Proofs

open Sys2Proof.Machine

/-- Settles O60: each fault's condition breaks a duty of its tick, but for MF7 and for MF8 behind an MBIN, which the count
of the packet's bytes and the offer held exclude over the run. -/
theorem dutifulRunsTakeNoFault : Obligations.DutifulRunsTakeNoFault := by
  intro k s hinv hc hnS hhold hof hif hd
  have hempty : s.packetBytes = 0 := by simp [State.packetBytes, Bd.held, hnS, hhold]
  have hfollows : Duties.start.Follows s := ⟨hempty.le, fun _ => Nat.zero_le _⟩
  obtain ⟨_, hout⟩ := dutifulFrom_keeps (P := fun d t => t.OutKept d) (fun _ _ => State.OutKept.afterStep) k
    ⟨hinv, hc, hof, fun _ => hfollows⟩ hd
  obtain ⟨_, hin⟩ := dutifulFrom_keeps (P := fun _ t => t.InKept) (fun _ _ => State.InKept.afterStep) k ⟨hinv, hif⟩ hd
  exact ⟨hout.noFault, hin.noFault⟩

/-- Settles O38: the part of a side in its reset tick is RESET alone, which leaves the same of what it has left. -/
theorem resetTick : Obligations.ResetTick := by
  refine ⟨fun s hl hr => ?_, fun s hl hr => ?_⟩
  · obtain ⟨t, hs, hl', htf, hbd, htog, hout⟩ := step_next_of_outReset hl hr
    have hdepth : t.cfg.bufDepth = s.cfg.bufDepth := congrArg Cfg.bufDepth (step_cfg hs)
    have hfull : t.regs.tf.full t.cfg.bufDepth = false :=
      (congrArg₂ Tfifo.full hdepth htf).trans (beq_false_of_ne (Cfg.bufDepth_pos hl.1).ne)
    refine ⟨t, hs, htf, hbd, htog, hl'.2, congrArg OutPorts.hsAck hout, congrArg OutPorts.hsNak hout,
      congrArg OutPorts.sValid hout, congrArg Tfifo.empty htf, hfull, congrArg₂ Tfifo.spaceAvailable hdepth htf,
      congrArg₂ Tfifo.runSpace hdepth htf, fun hr' => ?_⟩
    obtain ⟨t', hs', -, htf', hbd', htog', -⟩ := step_next_of_outReset hl' hr'
    refine ⟨t', hs', htf'.trans ?_, hbd'.trans ?_, htog'.trans htog.symm⟩
    · rw [Regs.afterReset, htf]
      rfl
    · rw [Regs.afterReset, hbd]
      rfl
  · obtain ⟨t, hs, hl', hinep, hmb, hoi, hom⟩ := step_next_of_inReset hl hr
    refine ⟨t, hs, hinep, hmb, hl'.2, congrArg InPorts.pReady hoi, congrArg MbPorts.pReady hom,
      congrArg InPorts.hsNak hoi, congrArg InPorts.txValid hoi, congrArg InPorts.txZlp hoi,
      congrArg InPorts.txPidToggle hoi, fun hr' => ?_⟩
    obtain ⟨t', hs', -, hinep', hmb', -⟩ := step_next_of_inReset hl' hr'
    refine ⟨t', hs', hinep'.trans ?_, hmb'.trans ?_⟩
    · rw [Regs.afterReset, hinep]
      rfl
    · rw [Regs.afterReset, hmb]
      rfl

/-- Settles O9: the conditions are the checks of R296, and a side that is not built has no part in a step. -/
theorem configurationIsChecked : Obligations.ConfigurationIsChecked := by
  refine ⟨fun c hc => ?_, fun c hc => ?_, fun c => ?_, fun c => ⟨Bool.and_eq_true_iff, Bool.and_eq_true_iff⟩,
    fun s ho hi => ?_, fun s hb q hs => ?_, fun s hb => ?_, fun s hb => ?_, fun _ _ _ _ _ _ _ => rfl⟩
  · simp [Cfg.outLegal, hc, and_assoc]
  · simp [Cfg.outLegal, hc]
  · cases hc : c.inSide <;> simp [Cfg.inLegal, hc, and_assoc]
  · simp [step, State.advance, Cfg.legal, ho, hi]
  · have hlegal : s.cfg.legal = true := Bool.or_eq_true_iff.mpr hb
    rcases step_cases s with ⟨hc, -⟩ | ⟨-, -, h⟩ | ⟨f, -, h⟩ | ⟨-, -, -, h⟩
    · exact Bool.false_ne_true (hc.symm.trans hlegal)
    all_goals cases h.symm.trans hs
  · exact sameOut_afterStep_of_not_outLive fun hl => Bool.false_ne_true (hb.symm.trans hl.1)
  · exact sameIn_afterStep_of_not_inLive fun hl => Bool.false_ne_true (hb.symm.trans hl.1)

/-- Settles O24: the row schedules the registers of a reset tick and forces its outputs idle. -/
theorem resetRow : Obligations.ResetRow :=
  fun _ => ⟨_, rfl, ⟨rfl, rfl, rfl, rfl, rfl, rfl, rfl⟩, rfl, rfl, rfl, rfl, rfl, rfl, rfl, rfl, rfl, rfl, rfl, rfl, rfl,
    rfl⟩

end Sys2Proof.Proofs
end
